-- ==== Sys2Proof/Word.lean ====
section
/-! DEFINITION. The two word types of the block (spec/00_scope.md rules R5, R7): a byte is 8 bits, a word is 16 bits.
Both are bit vectors: the manual adds, masks and shifts them, and their arithmetic wraps silently (R8). -/

namespace Sys2Proof

/-- 8 bits: the data width of the block (R5 `DATA_WIDTH`). -/
abbrev Byte := BitVec 8

/-- 16 bits: the address width of the block (R5 `ADDR_WIDTH`). -/
abbrev Word := BitVec 16

end Sys2Proof
end

