-- ==== Sys2Proof/Machine/Cycles.lean ====
section
/-! DEFINITION. The parameter `BASE_CYCLES` (spec/00_scope.md rule R5): the base cost of each opcode, from the `base cycles` column of
spec/30_encoding.md rule R89. It stands here beside its readers, the meanings; the other parameters are in Config.lean. -/

namespace Sys2Proof

/-- `BASE_CYCLES`: the base cycle cost of an opcode byte (R89, R95; D11; UNVERIFIED, notes/assumptions/4.md). A byte of R91 has no
row; it costs nothing, as a step that faults adds nothing to `cycles` (R224), and no meaning asks for it. -/
def Config.baseCycles (opcode : Byte) : Nat :=
  match opcode.toNat with
  | 0x09 | 0x0A | 0x10 | 0x18 | 0x29 | 0x2A | 0x30 | 0x38 | 0x49 | 0x4A | 0x50 | 0x58 | 0x69 | 0x6A | 0x70 | 0x78
  | 0x88 | 0x8A | 0x90 | 0x98 | 0x9A | 0xA0 | 0xA2 | 0xA8 | 0xA9 | 0xAA | 0xB0 | 0xB8 | 0xBA | 0xC0 | 0xC8 | 0xC9
  | 0xCA | 0xD0 | 0xD8 | 0xE0 | 0xE8 | 0xE9 | 0xEA | 0xF0 | 0xF8 => 2
  | 0x05 | 0x08 | 0x24 | 0x25 | 0x45 | 0x48 | 0x4C | 0x65 | 0x84 | 0x85 | 0x86 | 0xA4 | 0xA5 | 0xA6 | 0xC4 | 0xC5
  | 0xE4 | 0xE5 => 3
  | 0x0D | 0x15 | 0x19 | 0x1D | 0x28 | 0x2C | 0x2D | 0x35 | 0x39 | 0x3D | 0x4D | 0x55 | 0x59 | 0x5D | 0x68 | 0x6D
  | 0x75 | 0x79 | 0x7D | 0x8C | 0x8D | 0x8E | 0x94 | 0x95 | 0x96 | 0xAC | 0xAD | 0xAE | 0xB4 | 0xB5 | 0xB6 | 0xB9
  | 0xBC | 0xBD | 0xBE | 0xCC | 0xCD | 0xD5 | 0xD9 | 0xDD | 0xEC | 0xED | 0xF5 | 0xF9 | 0xFD => 4
  | 0x06 | 0x11 | 0x26 | 0x31 | 0x46 | 0x51 | 0x66 | 0x6C | 0x71 | 0x99 | 0x9D | 0xB1 | 0xC6 | 0xD1 | 0xE6 | 0xF1 => 5
  | 0x01 | 0x0E | 0x16 | 0x20 | 0x21 | 0x2E | 0x36 | 0x40 | 0x41 | 0x4E | 0x56 | 0x60 | 0x61 | 0x6E | 0x76 | 0x81
  | 0x91 | 0xA1 | 0xC1 | 0xCE | 0xD6 | 0xE1 | 0xEE | 0xF6 => 6
  | 0x00 | 0x1E | 0x3E | 0x5E | 0x7E | 0xDE | 0xFE => 7
  | _ => 0

end Sys2Proof
end

