-- ==== Sys2Proof/Syntax.lean ====
section
/-! DEFINITION. The instructions: one constructor of `Instr` for each of the 151 rows of the opcode map
(spec/30_encoding.md rule R89), its mnemonic (R88) and its format (R81). An operand byte is a `Byte`, the two operand
bytes of a 3-byte instruction are one `Word`, low byte first (R83). -/

namespace Sys2Proof

/-- The thirteen formats, one per addressing mode (R81). -/
inductive Format where
  | implied | accumulator | immediate | zeroPage | zeroPageX | zeroPageY | absolute | absoluteX | absoluteY
  | indirectX | indirectY | indirect | relative
  deriving DecidableEq, Repr

/-- How many bytes an instruction of a format has, its opcode byte among them (R81, R86). -/
def Format.length : Format → Nat
  | .implied | .accumulator => 1
  | .immediate | .zeroPage | .zeroPageX | .zeroPageY | .indirectX | .indirectY | .relative => 2
  | .absolute | .absoluteX | .absoluteY | .indirect => 3

/-- The 56 mnemonics (R88). -/
inductive Mnemonic where
  | lda | ldx | ldy | sta | stx | sty | tax | tay | txa | tya
  | adc | sbc | cmp | cpx | cpy | inc | inx | iny | dec | dex | dey
  | and | ora | eor | bit | asl | lsr | rol | ror
  | bcc | bcs | beq | bne | bmi | bpl | bvc | bvs | jmp | jsr | rts
  | pha | php | pla | plp | tsx | txs
  | clc | sec | cli | sei | cld | sed | clv | nop | brk | rti
  deriving DecidableEq, Repr

/-- The 151 instructions, family by family. The suffix of a constructor names its format. -/
inductive Instr where
  -- Load, store and register transfer (41_load_store.md)
  -- LDA, load accumulator (R121)
  | ldaImm (b1 : Byte) | ldaZp (b1 : Byte) | ldaZpX (b1 : Byte) | ldaAbs (w : Word) | ldaAbsX (w : Word)
  | ldaAbsY (w : Word) | ldaIndX (b1 : Byte) | ldaIndY (b1 : Byte)
  -- LDX, load X (R122)
  | ldxImm (b1 : Byte) | ldxZp (b1 : Byte) | ldxZpY (b1 : Byte) | ldxAbs (w : Word) | ldxAbsY (w : Word)
  -- LDY, load Y (R123)
  | ldyImm (b1 : Byte) | ldyZp (b1 : Byte) | ldyZpX (b1 : Byte) | ldyAbs (w : Word) | ldyAbsX (w : Word)
  -- STA, store accumulator (R124)
  | staZp (b1 : Byte) | staZpX (b1 : Byte) | staAbs (w : Word) | staAbsX (w : Word) | staAbsY (w : Word)
  | staIndX (b1 : Byte) | staIndY (b1 : Byte)
  -- STX, store X (R125)
  | stxZp (b1 : Byte) | stxZpY (b1 : Byte) | stxAbs (w : Word)
  -- STY, store Y (R126)
  | styZp (b1 : Byte) | styZpX (b1 : Byte) | styAbs (w : Word)
  /-- TAX, transfer A to X (R127). -/
  | tax
  /-- TAY, transfer A to Y (R128). -/
  | tay
  /-- TXA, transfer X to A (R129). -/
  | txa
  /-- TYA, transfer Y to A (R130). -/
  | tya
  -- Arithmetic, compare, increment, decrement (42_arithmetic.md)
  -- ADC, add with carry (R141)
  | adcImm (b1 : Byte) | adcZp (b1 : Byte) | adcZpX (b1 : Byte) | adcAbs (w : Word) | adcAbsX (w : Word)
  | adcAbsY (w : Word) | adcIndX (b1 : Byte) | adcIndY (b1 : Byte)
  -- SBC, subtract with carry (R142)
  | sbcImm (b1 : Byte) | sbcZp (b1 : Byte) | sbcZpX (b1 : Byte) | sbcAbs (w : Word) | sbcAbsX (w : Word)
  | sbcAbsY (w : Word) | sbcIndX (b1 : Byte) | sbcIndY (b1 : Byte)
  -- CMP, compare accumulator (R143)
  | cmpImm (b1 : Byte) | cmpZp (b1 : Byte) | cmpZpX (b1 : Byte) | cmpAbs (w : Word) | cmpAbsX (w : Word)
  | cmpAbsY (w : Word) | cmpIndX (b1 : Byte) | cmpIndY (b1 : Byte)
  -- CPX, compare X (R144)
  | cpxImm (b1 : Byte) | cpxZp (b1 : Byte) | cpxAbs (w : Word)
  -- CPY, compare Y (R145)
  | cpyImm (b1 : Byte) | cpyZp (b1 : Byte) | cpyAbs (w : Word)
  -- INC, increment memory (R146)
  | incZp (b1 : Byte) | incZpX (b1 : Byte) | incAbs (w : Word) | incAbsX (w : Word)
  /-- INX, increment X (R147). -/
  | inx
  /-- INY, increment Y (R148). -/
  | iny
  -- DEC, decrement memory (R149)
  | decZp (b1 : Byte) | decZpX (b1 : Byte) | decAbs (w : Word) | decAbsX (w : Word)
  /-- DEX, decrement X (R150). -/
  | dex
  /-- DEY, decrement Y (R151). -/
  | dey
  -- Logic, bit test, shift, rotate (43_logic_shift.md)
  -- AND, and with accumulator (R161)
  | andImm (b1 : Byte) | andZp (b1 : Byte) | andZpX (b1 : Byte) | andAbs (w : Word) | andAbsX (w : Word)
  | andAbsY (w : Word) | andIndX (b1 : Byte) | andIndY (b1 : Byte)
  -- ORA, or with accumulator (R162)
  | oraImm (b1 : Byte) | oraZp (b1 : Byte) | oraZpX (b1 : Byte) | oraAbs (w : Word) | oraAbsX (w : Word)
  | oraAbsY (w : Word) | oraIndX (b1 : Byte) | oraIndY (b1 : Byte)
  -- EOR, exclusive or with accumulator (R163)
  | eorImm (b1 : Byte) | eorZp (b1 : Byte) | eorZpX (b1 : Byte) | eorAbs (w : Word) | eorAbsX (w : Word)
  | eorAbsY (w : Word) | eorIndX (b1 : Byte) | eorIndY (b1 : Byte)
  -- BIT, bit test (R164)
  | bitZp (b1 : Byte) | bitAbs (w : Word)
  -- ASL, arithmetic shift left (R165)
  | aslAcc | aslZp (b1 : Byte) | aslZpX (b1 : Byte) | aslAbs (w : Word) | aslAbsX (w : Word)
  -- LSR, logical shift right (R166)
  | lsrAcc | lsrZp (b1 : Byte) | lsrZpX (b1 : Byte) | lsrAbs (w : Word) | lsrAbsX (w : Word)
  -- ROL, rotate left through carry (R167)
  | rolAcc | rolZp (b1 : Byte) | rolZpX (b1 : Byte) | rolAbs (w : Word) | rolAbsX (w : Word)
  -- ROR, rotate right through carry (R168)
  | rorAcc | rorZp (b1 : Byte) | rorZpX (b1 : Byte) | rorAbs (w : Word) | rorAbsX (w : Word)
  -- Branches, jumps, subroutines (44_branch_jump.md)
  /-- BCC, branch if carry clear (R176). -/
  | bcc (b1 : Byte)
  /-- BCS, branch if carry set (R177). -/
  | bcs (b1 : Byte)
  /-- BEQ, branch if equal (zero set) (R178). -/
  | beq (b1 : Byte)
  /-- BNE, branch if not equal (zero clear) (R179). -/
  | bne (b1 : Byte)
  /-- BMI, branch if minus (negative set) (R180). -/
  | bmi (b1 : Byte)
  /-- BPL, branch if plus (negative clear) (R181). -/
  | bpl (b1 : Byte)
  /-- BVC, branch if overflow clear (R182). -/
  | bvc (b1 : Byte)
  /-- BVS, branch if overflow set (R183). -/
  | bvs (b1 : Byte)
  -- JMP, jump (R184)
  | jmpAbs (w : Word) | jmpInd (w : Word)
  /-- JSR, jump to subroutine (R185). -/
  | jsr (w : Word)
  /-- RTS, return from subroutine (R186). -/
  | rts
  -- Stack (45_stack.md)
  /-- PHA, push accumulator (R195). -/
  | pha
  /-- PHP, push processor status (R196). -/
  | php
  /-- PLA, pull accumulator (R197). -/
  | pla
  /-- PLP, pull processor status (R198). -/
  | plp
  /-- TSX, transfer SP to X (R199). -/
  | tsx
  /-- TXS, transfer X to SP (R200). -/
  | txs
  -- Flags, no operation, software interrupt (46_control.md)
  /-- CLC, clear carry (R205). -/
  | clc
  /-- SEC, set carry (R206). -/
  | sec
  /-- CLI, clear interrupt-disable (R207). -/
  | cli
  /-- SEI, set interrupt-disable (R208). -/
  | sei
  /-- CLD, clear decimal (R209). -/
  | cld
  /-- SED, set decimal (R210). -/
  | sed
  /-- CLV, clear overflow (R211). -/
  | clv
  /-- NOP, no operation (R212). -/
  | nop
  /-- BRK, software interrupt (break) (R214). -/
  | brk
  /-- RTI, return from interrupt (R215). -/
  | rti
  deriving DecidableEq, Repr

/-- The mnemonic of an instruction (R89). -/
def Instr.mnemonic : Instr → Mnemonic
  | .ldaImm _ | .ldaZp _ | .ldaZpX _ | .ldaAbs _ | .ldaAbsX _ | .ldaAbsY _ | .ldaIndX _ | .ldaIndY _ => .lda
  | .ldxImm _ | .ldxZp _ | .ldxZpY _ | .ldxAbs _ | .ldxAbsY _ => .ldx
  | .ldyImm _ | .ldyZp _ | .ldyZpX _ | .ldyAbs _ | .ldyAbsX _ => .ldy
  | .staZp _ | .staZpX _ | .staAbs _ | .staAbsX _ | .staAbsY _ | .staIndX _ | .staIndY _ => .sta
  | .stxZp _ | .stxZpY _ | .stxAbs _ => .stx
  | .styZp _ | .styZpX _ | .styAbs _ => .sty
  | .tax => .tax
  | .tay => .tay
  | .txa => .txa
  | .tya => .tya
  | .adcImm _ | .adcZp _ | .adcZpX _ | .adcAbs _ | .adcAbsX _ | .adcAbsY _ | .adcIndX _ | .adcIndY _ => .adc
  | .sbcImm _ | .sbcZp _ | .sbcZpX _ | .sbcAbs _ | .sbcAbsX _ | .sbcAbsY _ | .sbcIndX _ | .sbcIndY _ => .sbc
  | .cmpImm _ | .cmpZp _ | .cmpZpX _ | .cmpAbs _ | .cmpAbsX _ | .cmpAbsY _ | .cmpIndX _ | .cmpIndY _ => .cmp
  | .cpxImm _ | .cpxZp _ | .cpxAbs _ => .cpx
  | .cpyImm _ | .cpyZp _ | .cpyAbs _ => .cpy
  | .incZp _ | .incZpX _ | .incAbs _ | .incAbsX _ => .inc
  | .inx => .inx
  | .iny => .iny
  | .decZp _ | .decZpX _ | .decAbs _ | .decAbsX _ => .dec
  | .dex => .dex
  | .dey => .dey
  | .andImm _ | .andZp _ | .andZpX _ | .andAbs _ | .andAbsX _ | .andAbsY _ | .andIndX _ | .andIndY _ => .and
  | .oraImm _ | .oraZp _ | .oraZpX _ | .oraAbs _ | .oraAbsX _ | .oraAbsY _ | .oraIndX _ | .oraIndY _ => .ora
  | .eorImm _ | .eorZp _ | .eorZpX _ | .eorAbs _ | .eorAbsX _ | .eorAbsY _ | .eorIndX _ | .eorIndY _ => .eor
  | .bitZp _ | .bitAbs _ => .bit
  | .aslAcc | .aslZp _ | .aslZpX _ | .aslAbs _ | .aslAbsX _ => .asl
  | .lsrAcc | .lsrZp _ | .lsrZpX _ | .lsrAbs _ | .lsrAbsX _ => .lsr
  | .rolAcc | .rolZp _ | .rolZpX _ | .rolAbs _ | .rolAbsX _ => .rol
  | .rorAcc | .rorZp _ | .rorZpX _ | .rorAbs _ | .rorAbsX _ => .ror
  | .bcc _ => .bcc
  | .bcs _ => .bcs
  | .beq _ => .beq
  | .bne _ => .bne
  | .bmi _ => .bmi
  | .bpl _ => .bpl
  | .bvc _ => .bvc
  | .bvs _ => .bvs
  | .jmpAbs _ | .jmpInd _ => .jmp
  | .jsr _ => .jsr
  | .rts => .rts
  | .pha => .pha
  | .php => .php
  | .pla => .pla
  | .plp => .plp
  | .tsx => .tsx
  | .txs => .txs
  | .clc => .clc
  | .sec => .sec
  | .cli => .cli
  | .sei => .sei
  | .cld => .cld
  | .sed => .sed
  | .clv => .clv
  | .nop => .nop
  | .brk => .brk
  | .rti => .rti

/-- The format of an instruction (R89). -/
def Instr.format : Instr → Format
  | .tax | .tay | .txa | .tya | .inx | .iny | .dex | .dey | .rts | .pha | .php | .pla | .plp | .tsx | .txs | .clc
  | .sec | .cli | .sei | .cld | .sed | .clv | .nop | .brk | .rti => .implied
  | .aslAcc | .lsrAcc | .rolAcc | .rorAcc => .accumulator
  | .ldaImm _ | .ldxImm _ | .ldyImm _ | .adcImm _ | .sbcImm _ | .cmpImm _ | .cpxImm _ | .cpyImm _ | .andImm _
  | .oraImm _ | .eorImm _ => .immediate
  | .ldaZp _ | .ldxZp _ | .ldyZp _ | .staZp _ | .stxZp _ | .styZp _ | .adcZp _ | .sbcZp _ | .cmpZp _ | .cpxZp _
  | .cpyZp _ | .incZp _ | .decZp _ | .andZp _ | .oraZp _ | .eorZp _ | .bitZp _ | .aslZp _ | .lsrZp _ | .rolZp _
  | .rorZp _ => .zeroPage
  | .ldaZpX _ | .ldyZpX _ | .staZpX _ | .styZpX _ | .adcZpX _ | .sbcZpX _ | .cmpZpX _ | .incZpX _ | .decZpX _
  | .andZpX _ | .oraZpX _ | .eorZpX _ | .aslZpX _ | .lsrZpX _ | .rolZpX _ | .rorZpX _ => .zeroPageX
  | .ldxZpY _ | .stxZpY _ => .zeroPageY
  | .ldaAbs _ | .ldxAbs _ | .ldyAbs _ | .staAbs _ | .stxAbs _ | .styAbs _ | .adcAbs _ | .sbcAbs _ | .cmpAbs _
  | .cpxAbs _ | .cpyAbs _ | .incAbs _ | .decAbs _ | .andAbs _ | .oraAbs _ | .eorAbs _ | .bitAbs _ | .aslAbs _
  | .lsrAbs _ | .rolAbs _ | .rorAbs _ | .jmpAbs _ | .jsr _ => .absolute
  | .ldaAbsX _ | .ldyAbsX _ | .staAbsX _ | .adcAbsX _ | .sbcAbsX _ | .cmpAbsX _ | .incAbsX _ | .decAbsX _
  | .andAbsX _ | .oraAbsX _ | .eorAbsX _ | .aslAbsX _ | .lsrAbsX _ | .rolAbsX _ | .rorAbsX _ => .absoluteX
  | .ldaAbsY _ | .ldxAbsY _ | .staAbsY _ | .adcAbsY _ | .sbcAbsY _ | .cmpAbsY _ | .andAbsY _ | .oraAbsY _
  | .eorAbsY _ => .absoluteY
  | .ldaIndX _ | .staIndX _ | .adcIndX _ | .sbcIndX _ | .cmpIndX _ | .andIndX _ | .oraIndX _
  | .eorIndX _ => .indirectX
  | .ldaIndY _ | .staIndY _ | .adcIndY _ | .sbcIndY _ | .cmpIndY _ | .andIndY _ | .oraIndY _
  | .eorIndY _ => .indirectY
  | .jmpInd _ => .indirect
  | .bcc _ | .bcs _ | .beq _ | .bne _ | .bmi _ | .bpl _ | .bvc _ | .bvs _ => .relative

/-- How many bytes an instruction has (R86). -/
def Instr.length (i : Instr) : Nat := i.format.length

end Sys2Proof
end

