-- ==== Sys2Proof/WellFormed.lean ====
section
/-! DEFINITION. Well-formedness. An instruction is well formed when its mnemonic has its format (spec/40_addressing_modes.md
rule R117); its operand bytes are unconstrained (spec/30_encoding.md rule R92), so there is no check of them. A list of
bytes can be an instruction when it is not empty, its first byte is none of the 105 of R91, and it has at most three
bytes (R80). Both tables are written from their own rules, not from the opcode map. -/

namespace Sys2Proof

/-- The formats each mnemonic has (R117). -/
def Mnemonic.formats : Mnemonic → List Format
  | .lda | .adc | .sbc | .cmp | .and | .ora | .eor =>
    [.immediate, .zeroPage, .zeroPageX, .absolute, .absoluteX, .absoluteY, .indirectX, .indirectY]
  | .sta => [.zeroPage, .zeroPageX, .absolute, .absoluteX, .absoluteY, .indirectX, .indirectY]
  | .ldx => [.immediate, .zeroPage, .zeroPageY, .absolute, .absoluteY]
  | .ldy => [.immediate, .zeroPage, .zeroPageX, .absolute, .absoluteX]
  | .stx => [.zeroPage, .zeroPageY, .absolute]
  | .sty => [.zeroPage, .zeroPageX, .absolute]
  | .cpx | .cpy => [.immediate, .zeroPage, .absolute]
  | .bit => [.zeroPage, .absolute]
  | .asl | .lsr | .rol | .ror => [.accumulator, .zeroPage, .zeroPageX, .absolute, .absoluteX]
  | .inc | .dec => [.zeroPage, .zeroPageX, .absolute, .absoluteX]
  | .jmp => [.absolute, .indirect]
  | .jsr => [.absolute]
  | .bcc | .bcs | .beq | .bne | .bmi | .bpl | .bvc | .bvs => [.relative]
  | .tax | .tay | .txa | .tya | .inx | .iny | .dex | .dey | .rts | .pha | .php | .pla | .plp | .tsx | .txs | .clc | .sec
  | .cli | .sei | .cld | .sed | .clv | .nop | .brk | .rti => [.implied]

/-- A mnemonic has a format: a combination that R117 does not list has no opcode. -/
def wellFormedForm (m : Mnemonic) (f : Format) : Bool := m.formats.contains f

/-- An instruction is well formed when R117 gives its mnemonic its format. -/
def Instr.wellFormed (i : Instr) : Bool := wellFormedForm i.mnemonic i.format

/-- The 105 byte values that are not instructions (R91). -/
def illegalOpcodes : List Byte :=
  [0x02, 0x03, 0x04, 0x07, 0x0B, 0x0C, 0x0F] ++
  [0x12, 0x13, 0x14, 0x17, 0x1A, 0x1B, 0x1C, 0x1F] ++
  [0x22, 0x23, 0x27, 0x2B, 0x2F] ++
  [0x32, 0x33, 0x34, 0x37, 0x3A, 0x3B, 0x3C, 0x3F] ++
  [0x42, 0x43, 0x44, 0x47, 0x4B, 0x4F] ++
  [0x52, 0x53, 0x54, 0x57, 0x5A, 0x5B, 0x5C, 0x5F] ++
  [0x62, 0x63, 0x64, 0x67, 0x6B, 0x6F] ++
  [0x72, 0x73, 0x74, 0x77, 0x7A, 0x7B, 0x7C, 0x7F] ++
  [0x80, 0x82, 0x83, 0x87, 0x89, 0x8B, 0x8F] ++
  [0x92, 0x93, 0x97, 0x9B, 0x9C, 0x9E, 0x9F] ++
  [0xA3, 0xA7, 0xAB, 0xAF] ++
  [0xB2, 0xB3, 0xB7, 0xBB, 0xBF] ++
  [0xC2, 0xC3, 0xC7, 0xCB, 0xCF] ++
  [0xD2, 0xD3, 0xD4, 0xD7, 0xDA, 0xDB, 0xDC, 0xDF] ++
  [0xE2, 0xE3, 0xE7, 0xEB, 0xEF] ++
  [0xF2, 0xF3, 0xF4, 0xF7, 0xFA, 0xFB, 0xFC, 0xFF]

/-- A byte is an opcode when it is none of the 105 of R91. -/
def legalOpcode (op : Byte) : Bool := !illegalOpcodes.contains op

/-- A list of bytes can be one whole instruction: it is not empty, its opcode byte is legal, and it has one to three
bytes (R80, R91). -/
def wellFormedBytes : List Byte → Bool
  | [] => false
  | op :: operands => legalOpcode op && operands.length ≤ 2

end Sys2Proof
end

