-- ==== Sys2Proof/Decode.lean ====
section
/-! DEFINITION. The opcode map, the decoder and the encoder (spec/30_encoding.md rules R80 to R92), and the byte-order
helpers they use (spec/00_scope.md rule R7). The decoder is total on any list of bytes and rejects by name. -/

namespace Sys2Proof

/-- `hi8(w) = w[15:8]`, the high byte (the page) of a word (R7). -/
def hi8 (w : Word) : Byte := BitVec.ofNat 8 (w.toNat / 256)

/-- `lo8(w) = w[7:0]`, the low byte of a word (R7). -/
def lo8 (w : Word) : Byte := BitVec.ofNat 8 w.toNat

/-- `hl = h * 256 + l`, the concatenation of two bytes into a word (R7). -/
def mkWord (h l : Byte) : Word := BitVec.ofNat 16 (h.toNat * 256 + l.toNat)

/-- What an opcode byte selects: an instruction with no operand byte, with one, or with two. -/
inductive OpcodeEntry where
  | noOperand (i : Instr)
  | oneByte (mk : Byte → Instr)
  | twoBytes (mk : Word → Instr)

/-- Why a list of bytes is no instruction: there is no byte; the first byte is not in the opcode map (R91); the opcode's
operand bytes are not all there. A fetch from memory meets the second only, since every address can be read (R51; DESIGN
CHOICE, notes/assumptions/10.md). -/
inductive DecodeError where
  | noBytes
  | illegalOpcode (op : Byte)
  | truncated (op : Byte)
  deriving DecidableEq, Repr

/-- The opcode map (R89): the whole opcode byte is looked up (R82); a byte that is not listed is one of R91. The spec
marks the bytes as general knowledge (D17; UNVERIFIED, notes/assumptions/13.md). -/
def opcodeMap (op : Byte) : Option OpcodeEntry :=
  match op.toNat with
  | 0x00 => some (.noOperand .brk)
  | 0x01 => some (.oneByte .oraIndX)
  | 0x05 => some (.oneByte .oraZp)
  | 0x06 => some (.oneByte .aslZp)
  | 0x08 => some (.noOperand .php)
  | 0x09 => some (.oneByte .oraImm)
  | 0x0A => some (.noOperand .aslAcc)
  | 0x0D => some (.twoBytes .oraAbs)
  | 0x0E => some (.twoBytes .aslAbs)
  | 0x10 => some (.oneByte .bpl)
  | 0x11 => some (.oneByte .oraIndY)
  | 0x15 => some (.oneByte .oraZpX)
  | 0x16 => some (.oneByte .aslZpX)
  | 0x18 => some (.noOperand .clc)
  | 0x19 => some (.twoBytes .oraAbsY)
  | 0x1D => some (.twoBytes .oraAbsX)
  | 0x1E => some (.twoBytes .aslAbsX)
  | 0x20 => some (.twoBytes .jsr)
  | 0x21 => some (.oneByte .andIndX)
  | 0x24 => some (.oneByte .bitZp)
  | 0x25 => some (.oneByte .andZp)
  | 0x26 => some (.oneByte .rolZp)
  | 0x28 => some (.noOperand .plp)
  | 0x29 => some (.oneByte .andImm)
  | 0x2A => some (.noOperand .rolAcc)
  | 0x2C => some (.twoBytes .bitAbs)
  | 0x2D => some (.twoBytes .andAbs)
  | 0x2E => some (.twoBytes .rolAbs)
  | 0x30 => some (.oneByte .bmi)
  | 0x31 => some (.oneByte .andIndY)
  | 0x35 => some (.oneByte .andZpX)
  | 0x36 => some (.oneByte .rolZpX)
  | 0x38 => some (.noOperand .sec)
  | 0x39 => some (.twoBytes .andAbsY)
  | 0x3D => some (.twoBytes .andAbsX)
  | 0x3E => some (.twoBytes .rolAbsX)
  | 0x40 => some (.noOperand .rti)
  | 0x41 => some (.oneByte .eorIndX)
  | 0x45 => some (.oneByte .eorZp)
  | 0x46 => some (.oneByte .lsrZp)
  | 0x48 => some (.noOperand .pha)
  | 0x49 => some (.oneByte .eorImm)
  | 0x4A => some (.noOperand .lsrAcc)
  | 0x4C => some (.twoBytes .jmpAbs)
  | 0x4D => some (.twoBytes .eorAbs)
  | 0x4E => some (.twoBytes .lsrAbs)
  | 0x50 => some (.oneByte .bvc)
  | 0x51 => some (.oneByte .eorIndY)
  | 0x55 => some (.oneByte .eorZpX)
  | 0x56 => some (.oneByte .lsrZpX)
  | 0x58 => some (.noOperand .cli)
  | 0x59 => some (.twoBytes .eorAbsY)
  | 0x5D => some (.twoBytes .eorAbsX)
  | 0x5E => some (.twoBytes .lsrAbsX)
  | 0x60 => some (.noOperand .rts)
  | 0x61 => some (.oneByte .adcIndX)
  | 0x65 => some (.oneByte .adcZp)
  | 0x66 => some (.oneByte .rorZp)
  | 0x68 => some (.noOperand .pla)
  | 0x69 => some (.oneByte .adcImm)
  | 0x6A => some (.noOperand .rorAcc)
  | 0x6C => some (.twoBytes .jmpInd)
  | 0x6D => some (.twoBytes .adcAbs)
  | 0x6E => some (.twoBytes .rorAbs)
  | 0x70 => some (.oneByte .bvs)
  | 0x71 => some (.oneByte .adcIndY)
  | 0x75 => some (.oneByte .adcZpX)
  | 0x76 => some (.oneByte .rorZpX)
  | 0x78 => some (.noOperand .sei)
  | 0x79 => some (.twoBytes .adcAbsY)
  | 0x7D => some (.twoBytes .adcAbsX)
  | 0x7E => some (.twoBytes .rorAbsX)
  | 0x81 => some (.oneByte .staIndX)
  | 0x84 => some (.oneByte .styZp)
  | 0x85 => some (.oneByte .staZp)
  | 0x86 => some (.oneByte .stxZp)
  | 0x88 => some (.noOperand .dey)
  | 0x8A => some (.noOperand .txa)
  | 0x8C => some (.twoBytes .styAbs)
  | 0x8D => some (.twoBytes .staAbs)
  | 0x8E => some (.twoBytes .stxAbs)
  | 0x90 => some (.oneByte .bcc)
  | 0x91 => some (.oneByte .staIndY)
  | 0x94 => some (.oneByte .styZpX)
  | 0x95 => some (.oneByte .staZpX)
  | 0x96 => some (.oneByte .stxZpY)
  | 0x98 => some (.noOperand .tya)
  | 0x99 => some (.twoBytes .staAbsY)
  | 0x9A => some (.noOperand .txs)
  | 0x9D => some (.twoBytes .staAbsX)
  | 0xA0 => some (.oneByte .ldyImm)
  | 0xA1 => some (.oneByte .ldaIndX)
  | 0xA2 => some (.oneByte .ldxImm)
  | 0xA4 => some (.oneByte .ldyZp)
  | 0xA5 => some (.oneByte .ldaZp)
  | 0xA6 => some (.oneByte .ldxZp)
  | 0xA8 => some (.noOperand .tay)
  | 0xA9 => some (.oneByte .ldaImm)
  | 0xAA => some (.noOperand .tax)
  | 0xAC => some (.twoBytes .ldyAbs)
  | 0xAD => some (.twoBytes .ldaAbs)
  | 0xAE => some (.twoBytes .ldxAbs)
  | 0xB0 => some (.oneByte .bcs)
  | 0xB1 => some (.oneByte .ldaIndY)
  | 0xB4 => some (.oneByte .ldyZpX)
  | 0xB5 => some (.oneByte .ldaZpX)
  | 0xB6 => some (.oneByte .ldxZpY)
  | 0xB8 => some (.noOperand .clv)
  | 0xB9 => some (.twoBytes .ldaAbsY)
  | 0xBA => some (.noOperand .tsx)
  | 0xBC => some (.twoBytes .ldyAbsX)
  | 0xBD => some (.twoBytes .ldaAbsX)
  | 0xBE => some (.twoBytes .ldxAbsY)
  | 0xC0 => some (.oneByte .cpyImm)
  | 0xC1 => some (.oneByte .cmpIndX)
  | 0xC4 => some (.oneByte .cpyZp)
  | 0xC5 => some (.oneByte .cmpZp)
  | 0xC6 => some (.oneByte .decZp)
  | 0xC8 => some (.noOperand .iny)
  | 0xC9 => some (.oneByte .cmpImm)
  | 0xCA => some (.noOperand .dex)
  | 0xCC => some (.twoBytes .cpyAbs)
  | 0xCD => some (.twoBytes .cmpAbs)
  | 0xCE => some (.twoBytes .decAbs)
  | 0xD0 => some (.oneByte .bne)
  | 0xD1 => some (.oneByte .cmpIndY)
  | 0xD5 => some (.oneByte .cmpZpX)
  | 0xD6 => some (.oneByte .decZpX)
  | 0xD8 => some (.noOperand .cld)
  | 0xD9 => some (.twoBytes .cmpAbsY)
  | 0xDD => some (.twoBytes .cmpAbsX)
  | 0xDE => some (.twoBytes .decAbsX)
  | 0xE0 => some (.oneByte .cpxImm)
  | 0xE1 => some (.oneByte .sbcIndX)
  | 0xE4 => some (.oneByte .cpxZp)
  | 0xE5 => some (.oneByte .sbcZp)
  | 0xE6 => some (.oneByte .incZp)
  | 0xE8 => some (.noOperand .inx)
  | 0xE9 => some (.oneByte .sbcImm)
  | 0xEA => some (.noOperand .nop)
  | 0xEC => some (.twoBytes .cpxAbs)
  | 0xED => some (.twoBytes .sbcAbs)
  | 0xEE => some (.twoBytes .incAbs)
  | 0xF0 => some (.oneByte .beq)
  | 0xF1 => some (.oneByte .sbcIndY)
  | 0xF5 => some (.oneByte .sbcZpX)
  | 0xF6 => some (.oneByte .incZpX)
  | 0xF8 => some (.noOperand .sed)
  | 0xF9 => some (.twoBytes .sbcAbsY)
  | 0xFD => some (.twoBytes .sbcAbsX)
  | 0xFE => some (.twoBytes .incAbsX)
  | _ => none

/-- How many bytes the opcode byte says its instruction has (R86); an illegal byte has no length, and only it is
fetched (R91, R224). -/
def opcodeLength (op : Byte) : Nat :=
  match opcodeMap op with
  | some (.noOperand _) => 1
  | some (.oneByte _) => 2
  | some (.twoBytes _) => 3
  | none => 1

/-- Decodes the instruction at the head of a list of bytes and gives the bytes that follow it. The operand word of a
3-byte instruction has its low byte first (R56, R83). -/
def decode (bytes : List Byte) : Except DecodeError (Instr × List Byte) :=
  match bytes with
  | [] => .error .noBytes
  | op :: rest =>
    match opcodeMap op, rest with
    | none, _ => .error (.illegalOpcode op)
    | some (.noOperand i), rest => .ok (i, rest)
    | some (.oneByte mk), b1 :: rest => .ok (mk b1, rest)
    | some (.oneByte _), [] => .error (.truncated op)
    | some (.twoBytes mk), b1 :: b2 :: rest => .ok (mk (mkWord b2 b1), rest)
    | some (.twoBytes _), _ => .error (.truncated op)

/-- The bytes of an instruction, in the order they lie in memory (R80, R81, R89). -/
def encode : Instr → List Byte
  | .ldaImm b1 => [0xA9, b1]
  | .ldaZp b1 => [0xA5, b1]
  | .ldaZpX b1 => [0xB5, b1]
  | .ldaAbs w => [0xAD, lo8 w, hi8 w]
  | .ldaAbsX w => [0xBD, lo8 w, hi8 w]
  | .ldaAbsY w => [0xB9, lo8 w, hi8 w]
  | .ldaIndX b1 => [0xA1, b1]
  | .ldaIndY b1 => [0xB1, b1]
  | .ldxImm b1 => [0xA2, b1]
  | .ldxZp b1 => [0xA6, b1]
  | .ldxZpY b1 => [0xB6, b1]
  | .ldxAbs w => [0xAE, lo8 w, hi8 w]
  | .ldxAbsY w => [0xBE, lo8 w, hi8 w]
  | .ldyImm b1 => [0xA0, b1]
  | .ldyZp b1 => [0xA4, b1]
  | .ldyZpX b1 => [0xB4, b1]
  | .ldyAbs w => [0xAC, lo8 w, hi8 w]
  | .ldyAbsX w => [0xBC, lo8 w, hi8 w]
  | .staZp b1 => [0x85, b1]
  | .staZpX b1 => [0x95, b1]
  | .staAbs w => [0x8D, lo8 w, hi8 w]
  | .staAbsX w => [0x9D, lo8 w, hi8 w]
  | .staAbsY w => [0x99, lo8 w, hi8 w]
  | .staIndX b1 => [0x81, b1]
  | .staIndY b1 => [0x91, b1]
  | .stxZp b1 => [0x86, b1]
  | .stxZpY b1 => [0x96, b1]
  | .stxAbs w => [0x8E, lo8 w, hi8 w]
  | .styZp b1 => [0x84, b1]
  | .styZpX b1 => [0x94, b1]
  | .styAbs w => [0x8C, lo8 w, hi8 w]
  | .tax => [0xAA]
  | .tay => [0xA8]
  | .txa => [0x8A]
  | .tya => [0x98]
  | .adcImm b1 => [0x69, b1]
  | .adcZp b1 => [0x65, b1]
  | .adcZpX b1 => [0x75, b1]
  | .adcAbs w => [0x6D, lo8 w, hi8 w]
  | .adcAbsX w => [0x7D, lo8 w, hi8 w]
  | .adcAbsY w => [0x79, lo8 w, hi8 w]
  | .adcIndX b1 => [0x61, b1]
  | .adcIndY b1 => [0x71, b1]
  | .sbcImm b1 => [0xE9, b1]
  | .sbcZp b1 => [0xE5, b1]
  | .sbcZpX b1 => [0xF5, b1]
  | .sbcAbs w => [0xED, lo8 w, hi8 w]
  | .sbcAbsX w => [0xFD, lo8 w, hi8 w]
  | .sbcAbsY w => [0xF9, lo8 w, hi8 w]
  | .sbcIndX b1 => [0xE1, b1]
  | .sbcIndY b1 => [0xF1, b1]
  | .cmpImm b1 => [0xC9, b1]
  | .cmpZp b1 => [0xC5, b1]
  | .cmpZpX b1 => [0xD5, b1]
  | .cmpAbs w => [0xCD, lo8 w, hi8 w]
  | .cmpAbsX w => [0xDD, lo8 w, hi8 w]
  | .cmpAbsY w => [0xD9, lo8 w, hi8 w]
  | .cmpIndX b1 => [0xC1, b1]
  | .cmpIndY b1 => [0xD1, b1]
  | .cpxImm b1 => [0xE0, b1]
  | .cpxZp b1 => [0xE4, b1]
  | .cpxAbs w => [0xEC, lo8 w, hi8 w]
  | .cpyImm b1 => [0xC0, b1]
  | .cpyZp b1 => [0xC4, b1]
  | .cpyAbs w => [0xCC, lo8 w, hi8 w]
  | .incZp b1 => [0xE6, b1]
  | .incZpX b1 => [0xF6, b1]
  | .incAbs w => [0xEE, lo8 w, hi8 w]
  | .incAbsX w => [0xFE, lo8 w, hi8 w]
  | .inx => [0xE8]
  | .iny => [0xC8]
  | .decZp b1 => [0xC6, b1]
  | .decZpX b1 => [0xD6, b1]
  | .decAbs w => [0xCE, lo8 w, hi8 w]
  | .decAbsX w => [0xDE, lo8 w, hi8 w]
  | .dex => [0xCA]
  | .dey => [0x88]
  | .andImm b1 => [0x29, b1]
  | .andZp b1 => [0x25, b1]
  | .andZpX b1 => [0x35, b1]
  | .andAbs w => [0x2D, lo8 w, hi8 w]
  | .andAbsX w => [0x3D, lo8 w, hi8 w]
  | .andAbsY w => [0x39, lo8 w, hi8 w]
  | .andIndX b1 => [0x21, b1]
  | .andIndY b1 => [0x31, b1]
  | .oraImm b1 => [0x09, b1]
  | .oraZp b1 => [0x05, b1]
  | .oraZpX b1 => [0x15, b1]
  | .oraAbs w => [0x0D, lo8 w, hi8 w]
  | .oraAbsX w => [0x1D, lo8 w, hi8 w]
  | .oraAbsY w => [0x19, lo8 w, hi8 w]
  | .oraIndX b1 => [0x01, b1]
  | .oraIndY b1 => [0x11, b1]
  | .eorImm b1 => [0x49, b1]
  | .eorZp b1 => [0x45, b1]
  | .eorZpX b1 => [0x55, b1]
  | .eorAbs w => [0x4D, lo8 w, hi8 w]
  | .eorAbsX w => [0x5D, lo8 w, hi8 w]
  | .eorAbsY w => [0x59, lo8 w, hi8 w]
  | .eorIndX b1 => [0x41, b1]
  | .eorIndY b1 => [0x51, b1]
  | .bitZp b1 => [0x24, b1]
  | .bitAbs w => [0x2C, lo8 w, hi8 w]
  | .aslAcc => [0x0A]
  | .aslZp b1 => [0x06, b1]
  | .aslZpX b1 => [0x16, b1]
  | .aslAbs w => [0x0E, lo8 w, hi8 w]
  | .aslAbsX w => [0x1E, lo8 w, hi8 w]
  | .lsrAcc => [0x4A]
  | .lsrZp b1 => [0x46, b1]
  | .lsrZpX b1 => [0x56, b1]
  | .lsrAbs w => [0x4E, lo8 w, hi8 w]
  | .lsrAbsX w => [0x5E, lo8 w, hi8 w]
  | .rolAcc => [0x2A]
  | .rolZp b1 => [0x26, b1]
  | .rolZpX b1 => [0x36, b1]
  | .rolAbs w => [0x2E, lo8 w, hi8 w]
  | .rolAbsX w => [0x3E, lo8 w, hi8 w]
  | .rorAcc => [0x6A]
  | .rorZp b1 => [0x66, b1]
  | .rorZpX b1 => [0x76, b1]
  | .rorAbs w => [0x6E, lo8 w, hi8 w]
  | .rorAbsX w => [0x7E, lo8 w, hi8 w]
  | .bcc b1 => [0x90, b1]
  | .bcs b1 => [0xB0, b1]
  | .beq b1 => [0xF0, b1]
  | .bne b1 => [0xD0, b1]
  | .bmi b1 => [0x30, b1]
  | .bpl b1 => [0x10, b1]
  | .bvc b1 => [0x50, b1]
  | .bvs b1 => [0x70, b1]
  | .jmpAbs w => [0x4C, lo8 w, hi8 w]
  | .jmpInd w => [0x6C, lo8 w, hi8 w]
  | .jsr w => [0x20, lo8 w, hi8 w]
  | .rts => [0x60]
  | .pha => [0x48]
  | .php => [0x08]
  | .pla => [0x68]
  | .plp => [0x28]
  | .tsx => [0xBA]
  | .txs => [0x9A]
  | .clc => [0x18]
  | .sec => [0x38]
  | .cli => [0x58]
  | .sei => [0x78]
  | .cld => [0xD8]
  | .sed => [0xF8]
  | .clv => [0xB8]
  | .nop => [0xEA]
  | .brk => [0x00]
  | .rti => [0x40]

/-- The low `n` bytes of a number, least significant first: the bytes of an instruction as R81 numbers its bits. -/
def bytesOfNat : Nat → Nat → List Byte
  | 0, _ => []
  | n + 1, w => BitVec.ofNat 8 w :: bytesOfNat n (w / 256)

/-- The instruction whose bits are `w`, numbered as spec/opcode_table.json numbers them, with every bit from `nbits` on
zero; `none` where the decoder refuses. -/
def decodeTableWord (nbits w : Nat) : Option Instr :=
  match decode (bytesOfNat 3 (w % 2 ^ nbits)) with
  | .ok (i, _) => some i
  | .error _ => none

end Sys2Proof
end

