-- ==== Sys2Proof/Config.lean ====
section
/-! DEFINITION. The parameters of the block with the values the spec decides (spec/00_scope.md rule R5,
spec/10_state.md rule R45). The decisions are spec/92_eei_decisions.md D3, D4 and D10; UNVERIFIED, notes/assumptions/4.md. The spec
leaves no result of an instruction open, so there is no free value here. Of the other open parameters of R5, `BASE_CYCLES` is
`Config.baseCycles` in Machine/Cycles.lean, `OPCODE_MAP` is `opcodeMap` in Decode.lean, `P_LAYOUT` is `packP` and `unpackP` in
Machine/Flags.lean, and the widths and policies are the form of `State` and of `step`; NOTES.md lists each. -/

namespace Sys2Proof

/-- `STACK_BASE`: the stack is the page 0x0100 to 0x01FF (R5, R62). -/
def Config.stackBase : Word := 0x0100

/-- `VEC_NMI`: reserved by convention, never read by this block (R60; D4, D9). -/
def Config.vecNMI : Word := 0xFFFA

/-- `VEC_RESET`: where the word loaded into PC by `PowerUp` and `Reset` lies (R60; D4). -/
def Config.vecReset : Word := 0xFFFC

/-- `VEC_BRK`: where the word loaded into PC by BRK lies (R60; D4). -/
def Config.vecBRK : Word := 0xFFFE

/-- `RESET_A` (R45; D3). -/
def Config.resetA : Byte := 0x00

/-- `RESET_X` (R45; D3). -/
def Config.resetX : Byte := 0x00

/-- `RESET_Y` (R45; D3). -/
def Config.resetY : Byte := 0x00

/-- `RESET_SP` (R45; D3). -/
def Config.resetSP : Byte := 0xFD

/-- `RESET_FLAGS`, C (R45; D3). -/
def Config.resetC : Bool := false

/-- `RESET_FLAGS`, Z (R45; D3). -/
def Config.resetZ : Bool := false

/-- `RESET_FLAGS`, I, the one flag that is set (R45; D3). -/
def Config.resetI : Bool := true

/-- `RESET_FLAGS`, D (R45; D3). -/
def Config.resetD : Bool := false

/-- `RESET_FLAGS`, B (R45; D3). -/
def Config.resetB : Bool := false

/-- `RESET_FLAGS`, V (R45; D3). -/
def Config.resetV : Bool := false

/-- `RESET_FLAGS`, N (R45; D3). -/
def Config.resetN : Bool := false

/-- `RESET_CYCLES` (R45; D10). -/
def Config.resetCycles : Nat := 0

end Sys2Proof
end

