-- ==== Sys2Proof/Machine/State.lean ====
section
/-! DEFINITION. The state of the block: exactly the fields of spec/10_state.md rule R20, as plain data, with the spec's own
names; the reasons a step can stop; and the state right after `PowerUp` (R45, R250, R251). -/

namespace Sys2Proof.Machine

/-- The one fault of the block (R11, R41, R224). -/
inductive Fault where
  /-- The opcode byte `opcode` fetched at `pc` is not in the opcode map (R91). A step that fetches such a byte puts this
  value into the latch `State.fault` and answers a next state; every later step, which the spec refuses (R85 step 0),
  answers it as the outcome `fault`. Raised by `step` alone, never by a meaning. Safe: the machine stops, and nothing is
  claimed of what the silicon does with the byte (D2; DESIGN CHOICE, notes/assumptions/1.md). -/
  | illegalOpcode (opcode : Byte) (pc : Word)
  deriving DecidableEq, Repr

/-- Why the model would give an instruction no meaning. -/
inductive Refusal where
  /-- An arm of `exec` without a meaning. Every instruction of the opcode map has one, so no arm raises this. Safe. -/
  | notModelled (mnemonic : String)
  deriving DecidableEq, Repr

/-- The memory array (R40): the cells that do not hold 0x00, as (address, byte) pairs. An address that is not listed reads
0x00, which is what `Zero()` leaves in every cell (R45, R55; DEDUCED, notes/assumptions/3.md). -/
abbrev Memory := List Host.Cell

/-- From address `lo` on: addresses rise strictly and stay below 65536, and no entry holds 0x00. -/
def Memory.wfFrom : Nat → Memory → Bool
  | _, [] => true
  | lo, (a, v) :: m => decide (lo ≤ a) && decide (a < 65536) && decide (v ≠ 0#8) && Memory.wfFrom (a + 1) m

/-- The one canonical form of a memory. -/
def Memory.wf (m : Memory) : Bool := Memory.wfFrom 0 m

/-- The whole state of the block (R20). The flags are separate bits and the counter is unbounded (R27, R39; DESIGN CHOICE,
notes/assumptions/9.md). -/
structure State where
  /-- Accumulator (R21). -/
  A : Byte
  /-- Index register X (R22). -/
  X : Byte
  /-- Index register Y (R23). -/
  Y : Byte
  /-- Stack pointer, an offset into page 0x01 (R25). -/
  SP : Byte
  /-- Program counter (R26). -/
  PC : Word
  /-- Carry (R28). -/
  C : Bool
  /-- Zero (R29). -/
  Z : Bool
  /-- Interrupt-disable; masks nothing in this block (R30). -/
  I : Bool
  /-- Decimal; has no effect on arithmetic (R31). -/
  D : Bool
  /-- Break, the stored flag; no instruction reads it (R32). -/
  B : Bool
  /-- Overflow (R33). -/
  V : Bool
  /-- Negative (R34). -/
  N : Bool
  /-- The cycle counter, unbounded (R39; D10). -/
  cycles : Nat
  /-- The memory array (R40). -/
  mem : Memory
  /-- The fault latch (R41). -/
  fault : Option Fault
  deriving DecidableEq, Repr

/-- What one step or one meaning answers. -/
abbrev Result := Host.Outcome State Fault Refusal

/-- The state after `PowerUp` (R45, R250, R251): PC is the word at `VEC_RESET` of a memory that has just been zeroed. -/
def State.reset : State where
  A := Config.resetA
  X := Config.resetX
  Y := Config.resetY
  SP := Config.resetSP
  PC := 0x0000
  C := Config.resetC
  Z := Config.resetZ
  I := Config.resetI
  D := Config.resetD
  B := Config.resetB
  V := Config.resetV
  N := Config.resetN
  cycles := Config.resetCycles
  mem := []
  fault := none

end Sys2Proof.Machine
end

