-- ==== Sys2Proof/Machine/Memory.lean ====
section
/-! DEFINITION. Reading and writing one cell of the memory array (spec/20_memory.md rules R51, R52, R55, R59), in the
canonical form of `Memory.wf`. -/

namespace Sys2Proof.Machine

/-- The byte at an address; 0x00 where no entry lists it (R51, R59). -/
def Memory.read : Memory → Nat → Byte
  | [], _ => 0#8
  | (k, v) :: m, a => if k = a then v else Memory.read m a

/-- Writes one cell (R52) and keeps the canonical form: writing 0x00 removes the entry. -/
def Memory.write : Memory → Nat → Byte → Memory
  | [], a, v => if v = 0#8 then [] else [(a, v)]
  | (k, b) :: m, a, v =>
    if a < k then (if v = 0#8 then (k, b) :: m else (a, v) :: (k, b) :: m)
    else if a = k then (if v = 0#8 then m else (a, v) :: m)
    else (k, b) :: Memory.write m a v

/-- `Zero()`: every cell 0x00 (R55). -/
def Memory.zeroed : Memory := []

end Sys2Proof.Machine
end

