-- ==== Sys2Proof/Machine/Registers.lean ====
section
/-! DEFINITION. The writes of the pieces of state, each in one place (spec/00_scope.md rule R9). Reading is the field
itself: no register is banked, hard-wired or has a read effect (spec/10_state.md rules R21 to R26, R42). -/

namespace Sys2Proof.Machine

/-- Writes the accumulator (R21). -/
def State.setA (s : State) (v : Byte) : State := { s with A := v }

/-- Writes X (R22). -/
def State.setX (s : State) (v : Byte) : State := { s with X := v }

/-- Writes Y (R23). -/
def State.setY (s : State) (v : Byte) : State := { s with Y := v }

/-- Writes the stack pointer (R25). -/
def State.setSP (s : State) (v : Byte) : State := { s with SP := v }

/-- Writes the program counter (R26). -/
def State.setPC (s : State) (v : Word) : State := { s with PC := v }

/-- Writes carry (R28). -/
def State.setC (s : State) (v : Bool) : State := { s with C := v }

/-- Writes zero (R29). -/
def State.setZ (s : State) (v : Bool) : State := { s with Z := v }

/-- Writes interrupt-disable (R30). -/
def State.setI (s : State) (v : Bool) : State := { s with I := v }

/-- Writes decimal (R31). -/
def State.setD (s : State) (v : Bool) : State := { s with D := v }

/-- Writes the stored break flag (R32). -/
def State.setB (s : State) (v : Bool) : State := { s with B := v }

/-- Writes overflow (R33). -/
def State.setV (s : State) (v : Bool) : State := { s with V := v }

/-- Writes negative (R34). -/
def State.setN (s : State) (v : Bool) : State := { s with N := v }

/-- Writes the memory array (R40). -/
def State.setMem (s : State) (m : Memory) : State := { s with mem := m }

/-- Writes the cycle counter (R39). -/
def State.setCycles (s : State) (n : Nat) : State := { s with cycles := n }

/-- `cycles <- cycles + n` (R39). -/
def State.addCycles (s : State) (n : Nat) : State := s.setCycles (s.cycles + n)

/-- Writes the fault latch (R41). -/
def State.setFault (s : State) (f : Option Fault) : State := { s with fault := f }

end Sys2Proof.Machine
end

