-- ==== Sys2Proof/Machine/Flags.lean ====
section
/-! DEFINITION. Every flag computation of the block: the Z and N contract (spec/10_state.md rule R35), the status byte
(R36 to R38), the adder (spec/42_arithmetic.md rule R152), the compare (R153), BIT (spec/43_logic_shift.md rule R164)
and the bits the shifts move (R165 to R168). -/

namespace Sys2Proof.Machine

/-- `bool(c)` as a number: 1 when the flag is set, else 0 (R8). -/
def bitNat (c : Bool) : Nat := if c then 1 else 0

/-- `v[k]`, bit `k` of a byte (R7). -/
def byteBit (v : Byte) (k : Nat) : Bool := v.getLsbD k

/-- The flag update contract: Z iff the byte is 0x00, N is its bit 7 (R35). -/
def State.setZN (s : State) (v : Byte) : State := (s.setZ (decide (v = 0#8))).setN (byteBit v 7)

/-- The status byte that PHP and BRK push: bits 5 and 4 are 1 whatever the stored B holds (R36, R37). -/
def packP (s : State) : Byte :=
  BitVec.ofNat 8 (bitNat s.N * 0x80 + bitNat s.V * 0x40 + 0x20 + 0x10 + bitNat s.D * 0x08 + bitNat s.I * 0x04 + bitNat s.Z * 0x02 +
    bitNat s.C * 0x01)

/-- The six flags PLP and RTI set from a pulled byte; bits 5 and 4 are discarded and B is unchanged (R38). -/
def unpackP (s : State) (b : Byte) : State :=
  { s with
    N := byteBit b 7, V := byteBit b 6, D := byteBit b 3, I := byteBit b 2, Z := byteBit b 1, C := byteBit b 0 }

/-- The result byte, the carry out of bit 7 and the signed overflow of an addition (R152). -/
structure Sum where
  result : Byte
  carry : Bool
  overflow : Bool
  deriving DecidableEq, Repr

/-- The adder shared by ADC and SBC (R152): the exact sum, then its low byte. It is binary whatever D holds (R31, R140; D8;
UNVERIFIED, notes/assumptions/8.md). -/
def addWithCarry (a m : Byte) (c : Bool) : Sum :=
  let t := a.toNat + m.toNat + bitNat c
  let r : Byte := BitVec.ofNat 8 t
  { result := r
    carry := decide (t > 0xFF)
    overflow := decide (((a ^^^ r) &&& (m ^^^ r) &&& 0x80) ≠ 0) }

/-- The compare shared by CMP, CPX and CPY: C is the unsigned comparison, Z and N come from the difference, V is
unchanged (R153). -/
def compareReg (reg m : Byte) (s : State) : State := (s.setC (decide (m.toNat ≤ reg.toNat))).setZN (reg - m)

/-- BIT: Z from the AND, N and V from bits 7 and 6 of the operand itself (R164). -/
def bitTest (m : Byte) (s : State) : State :=
  ((s.setZ (decide (s.A &&& m = 0#8))).setN (byteBit m 7)).setV (byteBit m 6)

/-- The byte moved one place to the left, its new bit 0 given (R165, R167). -/
def shiftLeft (b : Byte) (bit0 : Bool) : Byte := BitVec.ofNat 8 (b.toNat * 2 + bitNat bit0)

/-- The byte moved one place to the right, its new bit 7 given (R166, R168). -/
def shiftRight (b : Byte) (bit7 : Bool) : Byte := BitVec.ofNat 8 (b.toNat / 2 + bitNat bit7 * 0x80)

end Sys2Proof.Machine
end

