-- ==== Sys2Proof/Machine/Ops.lean ====
section
/-! DEFINITION. The named operations over memory and registers: byte and word access (spec/20_memory.md rules R51 to
R54), the stack engine (R62 to R66), the fetch (spec/30_encoding.md rules R83, R85), the end of a step (R85 step 4),
taking the one trap and returning from it (spec/60_exceptions.md rules R227, R229), and raising the one fault (R224). -/

namespace Sys2Proof.Machine

/-- `MemRead(addr, 1)` (R51). -/
def State.readByte (s : State) (a : Word) : Byte := s.mem.read a.toNat

/-- `MemWrite(addr, 1, v)` (R52). -/
def State.writeByte (s : State) (a : Word) (v : Byte) : State := s.setMem (s.mem.write a.toNat v)

/-- `MemRead(addr, 2)`: low byte first; the high byte's address wraps at 0xFFFF (R53). -/
def State.readWord (s : State) (a : Word) : Word := mkWord (s.readByte (a + 1)) (s.readByte a)

/-- `MemWrite(addr, 2, w)`: a primitive of the host and of tests; no instruction uses it (R54). -/
def State.writeWord (s : State) (a : Word) (w : Word) : State := (s.writeByte a (lo8 w)).writeByte (a + 1) (hi8 w)

/-- `zext_16(b)`: a byte as a word (R8). -/
def zext16 (b : Byte) : Word := BitVec.ofNat 16 b.toNat

/-- `sext_16(b)`: a byte read as a two's-complement number, as a word (R8). -/
def sext16 (b : Byte) : Word :=
  if b.toNat < 0x80 then BitVec.ofNat 16 b.toNat else BitVec.ofNat 16 (0xFF00 + b.toNat)

/-- The cell of the stack page that a stack pointer names: `0x0100 + SP` (R62). -/
def stackAddr (sp : Byte) : Word := Config.stackBase + zext16 sp

/-- `Push8(v)`: writes at `0x0100 + SP`, then lowers SP by 1 with 8-bit wrap (R63). -/
def State.push8 (s : State) (v : Byte) : State := (s.writeByte (stackAddr s.SP) v).setSP (s.SP - 1)

/-- The byte `Pop8()` returns: the one at `0x0100 + u8(SP + 1)` (R64). -/
def State.top8 (s : State) : Byte := s.readByte (stackAddr (s.SP + 1))

/-- The state `Pop8()` leaves: SP raised by 1 with 8-bit wrap, the cell not cleared (R64). -/
def State.drop8 (s : State) : State := s.setSP (s.SP + 1)

/-- `Push16(w)`: the high byte, then the low byte, each within the stack page (R65). -/
def State.push16 (s : State) (w : Word) : State := (s.push8 (hi8 w)).push8 (lo8 w)

/-- The word `Pop16()` returns: the low byte is pulled first (R66). -/
def State.top16 (s : State) : Word := mkWord s.drop8.top8 s.top8

/-- The state `Pop16()` leaves (R66). -/
def State.drop16 (s : State) : State := s.drop8.drop8

/-- The bytes of the instruction at PC: the opcode byte, and as many more as it says; addresses wrap (R83, R85). -/
def fetchBytes (s : State) : List Byte :=
  (List.range (opcodeLength (s.readByte s.PC))).map fun k => s.readByte (s.PC + BitVec.ofNat 16 k)

/-- Fetches and decodes the instruction at PC (R85 steps 1 and 2). -/
def fetch (s : State) : Except DecodeError (Instr × List Byte) := decode (fetchBytes s)

/-- Puts a number's low three bytes, the first at PC, where the fetch reads an instruction (R80); 3 bytes is the longest
instruction. The latch is cleared, for a set latch lets nothing be fetched (R85 step 0). -/
def placeAtPC (s : State) (w : Nat) : State :=
  (((s.writeByte s.PC (BitVec.ofNat 8 w)).writeByte (s.PC + 1) (BitVec.ofNat 8 (w / 0x100))).writeByte (s.PC + 2)
    (BitVec.ofNat 8 (w / 0x10000))).setFault none

/-- The end of every instruction: `PC <- next`, `cycles <- cycles + cost` (R85 step 4). -/
def finish (next : Word) (cost : Nat) (s : State) : Result := .next ((s.setPC next).addCycles cost)

/-- Trap entry (R214, R227): the return address `u16(pc0 + 2)` and the status byte go on the stack, I and B are set; PC is
then the vector word, which is read after the pushes (R73). The status byte is built from the flags before they change. -/
def trapEntry (s : State) : State :=
  (((s.push16 (s.PC + 2)).push8 (packP s)).setI true).setB true

/-- Takes the one trap of the block: enters and goes through the vector `VEC_BRK` (R214, R227). -/
def takeTrap (cost : Nat) (s : State) : Result :=
  let t := trapEntry s
  finish (t.readWord Config.vecBRK) cost t

/-- Returns from the trap: six flags from the pulled status byte, then PC from the pulled word, nothing added (R215, R229). -/
def returnFromTrap (cost : Nat) (s : State) : Result :=
  let t := unpackP s.drop8 s.top8
  finish t.top16 cost t.drop16

/-- `raise IllegalOpcode(op, pc0)`: the latch is set and nothing else changes (R224, R228). -/
def raiseIllegalOpcode (s : State) : State := s.setFault (some (.illegalOpcode (s.readByte s.PC) s.PC))

end Sys2Proof.Machine
end

