-- ==== Sys2Proof/Machine/Operands.lean ====
section
/-! DEFINITION. The memory address resolver (spec/40_addressing_modes.md): the operand forms, their effective addresses
and page crossings, the target computations of jumps and branches, the operand helpers of R116, and the shapes that
instructions of one kind share: what they have in common is the end of the step (R85 step 4), with the base cost of R95
and the penalties of R114 and R175. -/

namespace Sys2Proof.Machine

/-- The operand forms that name a byte of data: the immediate byte, the accumulator, and the eight memory modes. The jumps
and branches have targets instead (R107, R112, R113), and implied instructions have no operand (R101). -/
inductive Operand where
  | imm (b1 : Byte) | acc
  | zp (b1 : Byte) | zpX (b1 : Byte) | zpY (b1 : Byte)
  | abs (w : Word) | absX (w : Word) | absY (w : Word)
  | indX (b1 : Byte) | indY (b1 : Byte)
  deriving DecidableEq, Repr

/-- What a mode resolves to (R100): the byte itself, the accumulator, or the memory cell at an effective address. -/
inductive Place where
  | imm (v : Byte) | acc | mem (ea : Word)
  deriving DecidableEq, Repr

/-- Whether an opcode charges the page-cross penalty (R114). -/
inductive Penalty where
  | none | pageCross
  deriving DecidableEq, Repr

/-- How many bytes an instruction with this operand has (R86). -/
def operandLength : Operand → Word
  | .acc => 1
  | .imm _ | .zp _ | .zpX _ | .zpY _ | .indX _ | .indY _ => 2
  | .abs _ | .absX _ | .absY _ => 3

/-- `PageCross(a, b)`: the high bytes differ (R115). -/
def pageCross (a b : Word) : Bool := decide (hi8 a ≠ hi8 b)

/-- A pointer in the zero page: the low byte at `z`, the high byte at `u8(z + 1)`, both in page 0 (R110, R111). -/
def zeroPagePointer (z : Byte) (s : State) : Word := mkWord (s.readByte (zext16 (z + 1))) (s.readByte (zext16 z))

/-- The address before the last index is added: what the page of the effective address is compared with (R108, R109,
R111). In the modes that never cross it is the effective address itself. -/
def baseAddr (o : Operand) (s : State) : Word :=
  match o with
  | .imm b1 => zext16 b1
  | .acc => 0
  | .zp b1 => zext16 b1
  | .zpX b1 => zext16 (b1 + s.X)
  | .zpY b1 => zext16 (b1 + s.Y)
  | .abs w => w
  | .absX w => w
  | .absY w => w
  | .indX b1 => zeroPagePointer (b1 + s.X) s
  | .indY b1 => zeroPagePointer b1 s

/-- The effective address of a memory mode (R104 to R111). For the immediate byte and the accumulator, which have none,
the value is not used (DESIGN CHOICE, notes/assumptions/11.md). -/
def effAddr (o : Operand) (s : State) : Word :=
  match o with
  | .absX w => w + zext16 s.X
  | .absY w => w + zext16 s.Y
  | .indY b1 => zeroPagePointer b1 s + zext16 s.Y
  | _ => baseAddr o s

/-- Where the operand is (R101 to R111). -/
def placeOf (o : Operand) (s : State) : Place :=
  match o with
  | .imm b1 => .imm b1
  | .acc => .acc
  | _ => .mem (effAddr o s)

/-- The resolver's `cross`: 1 only in absolute_x, absolute_y and indirect_y, when the index changed the page (R100). -/
def crosses (o : Operand) (s : State) : Bool := pageCross (baseAddr o s) (effAddr o s)

/-- `extra`: one cycle when the page is crossed and the opcode charges for it (R114). -/
def penaltyCycles (p : Penalty) (cross : Bool) : Nat :=
  match p with
  | .none => 0
  | .pageCross => bitNat cross

/-- `LoadOperand` (R116). -/
def loadOperand (p : Place) (s : State) : Byte :=
  match p with
  | .imm v => v
  | .acc => s.A
  | .mem ea => s.readByte ea

/-- `StoreOperand` (R116). No store and no read-modify-write instruction has the immediate mode (R103, R117), so the first
case is met by none; it changes nothing (DESIGN CHOICE, notes/assumptions/11.md). -/
def storeOperand (p : Place) (v : Byte) (s : State) : State :=
  match p with
  | .imm _ => s
  | .acc => s.setA v
  | .mem ea => s.writeByte ea v

/-- The target of JMP indirect: the pointer's low byte wraps within its page, the page does not change (R112). -/
def indirectTarget (w : Word) (s : State) : Word :=
  mkWord (s.readByte (mkWord (hi8 w) (lo8 w + 1))) (s.readByte w)

/-- The address after a branch, which the offset is added to and whose page is compared (R113, R175). -/
def branchNext (s : State) : Word := s.PC + 2

/-- The target of a branch: `next + sext_16(b1)`, with wrap (R84, R113). -/
def branchTarget (b1 : Byte) (s : State) : Word := branchNext s + sext16 b1

/-- An instruction that reads its operand: `f` is given the byte read and does the rest. -/
def readForm (f : Byte → State → State) (o : Operand) (base : Nat) (p : Penalty) (s : State) : Result :=
  finish (s.PC + operandLength o) (base + penaltyCycles p (crosses o s)) (f (loadOperand (placeOf o s) s) s)

/-- An instruction that stores a register and does not read its operand; never a page-cross penalty (R114, R124). -/
def storeForm (v : Byte) (o : Operand) (base : Nat) (s : State) : Result :=
  finish (s.PC + operandLength o) base (storeOperand (placeOf o s) v s)

/-- A read-modify-write instruction: one read, then one write of the new byte to the same place, then the flags, which `g`
is given the old and the new byte for (R116); never a page-cross penalty (R114). -/
def modifyForm (f : Byte → Byte) (g : Byte → Byte → State → State) (o : Operand) (base : Nat) (s : State) : Result :=
  let old := loadOperand (placeOf o s) s
  finish (s.PC + operandLength o) base (g old (f old) (storeOperand (placeOf o s) (f old) s))

/-- A 1-byte instruction without operand that falls through (R101). -/
def impliedForm (f : State → State) (base : Nat) (s : State) : Result := finish (s.PC + 1) base (f s)

/-- `Branch(cond)`: the base cost, one more when taken, one more again when the target is in another page than the address
after the branch (R175). -/
def branchOn (cond : Bool) (b1 : Byte) (base : Nat) (s : State) : Result :=
  if cond then finish (branchTarget b1 s) (base + (1 + bitNat (pageCross (branchNext s) (branchTarget b1 s)))) s
  else finish (branchNext s) base s

end Sys2Proof.Machine
end

