-- ==== Sys2Proof/Machine/Arithmetic.lean ====
section
/-! DEFINITION. Arithmetic, compare, increment and decrement (spec/42_arithmetic.md rules R140 to R153). D is not read: ADC and
SBC are binary (R140; D8). -/

namespace Sys2Proof.Machine

/-- What ADC and SBC do with the byte they add (R141, R142, R152): A and C, V, Z, N. -/
def addToA (m : Byte) (s : State) : State :=
  let r := addWithCarry s.A m s.C
  (((s.setA r.result).setC r.carry).setV r.overflow).setZN r.result

/-- ADC (R141). -/
def adcA (m : Byte) (s : State) : State := addToA m s

/-- SBC adds the complement of the operand; the borrow is the complement of C (R142). -/
def sbcA (m : Byte) (s : State) : State := addToA (~~~m) s

/-- CMP (R143, R153). -/
def cmpA (m : Byte) (s : State) : State := compareReg s.A m s

/-- CPX (R144, R153). -/
def cmpX (m : Byte) (s : State) : State := compareReg s.X m s

/-- CPY (R145, R153). -/
def cmpY (m : Byte) (s : State) : State := compareReg s.Y m s

/-- INC: the memory byte plus 1 with wrap; Z and N from the new byte; C and V unchanged (R146). -/
def incForm (o : Operand) (base : Nat) (s : State) : Result :=
  modifyForm (fun b => b + 1) (fun _ new s => s.setZN new) o base s

/-- DEC: the memory byte minus 1 with wrap; Z and N from the new byte; C and V unchanged (R149). -/
def decForm (o : Operand) (base : Nat) (s : State) : Result :=
  modifyForm (fun b => b - 1) (fun _ new s => s.setZN new) o base s

/-- INX and DEX: X moved by `d` with wrap; Z and N from it; C and V unchanged (R147, R150). -/
def moveX (d : Byte) (s : State) : State := (s.setX (s.X + d)).setZN (s.X + d)

/-- INY and DEY: Y moved by `d` with wrap; Z and N from it; C and V unchanged (R148, R151). -/
def moveY (d : Byte) (s : State) : State := (s.setY (s.Y + d)).setZN (s.Y + d)

-- ADC, R141
def execAdcImm (b1 : Byte) (s : State) : Result := readForm adcA (.imm b1) (Config.baseCycles 0x69) .none s
def execAdcZp (b1 : Byte) (s : State) : Result := readForm adcA (.zp b1) (Config.baseCycles 0x65) .none s
def execAdcZpX (b1 : Byte) (s : State) : Result := readForm adcA (.zpX b1) (Config.baseCycles 0x75) .none s
def execAdcAbs (w : Word) (s : State) : Result := readForm adcA (.abs w) (Config.baseCycles 0x6D) .none s
def execAdcAbsX (w : Word) (s : State) : Result := readForm adcA (.absX w) (Config.baseCycles 0x7D) .pageCross s
def execAdcAbsY (w : Word) (s : State) : Result := readForm adcA (.absY w) (Config.baseCycles 0x79) .pageCross s
def execAdcIndX (b1 : Byte) (s : State) : Result := readForm adcA (.indX b1) (Config.baseCycles 0x61) .none s
def execAdcIndY (b1 : Byte) (s : State) : Result := readForm adcA (.indY b1) (Config.baseCycles 0x71) .pageCross s

-- SBC, R142
def execSbcImm (b1 : Byte) (s : State) : Result := readForm sbcA (.imm b1) (Config.baseCycles 0xE9) .none s
def execSbcZp (b1 : Byte) (s : State) : Result := readForm sbcA (.zp b1) (Config.baseCycles 0xE5) .none s
def execSbcZpX (b1 : Byte) (s : State) : Result := readForm sbcA (.zpX b1) (Config.baseCycles 0xF5) .none s
def execSbcAbs (w : Word) (s : State) : Result := readForm sbcA (.abs w) (Config.baseCycles 0xED) .none s
def execSbcAbsX (w : Word) (s : State) : Result := readForm sbcA (.absX w) (Config.baseCycles 0xFD) .pageCross s
def execSbcAbsY (w : Word) (s : State) : Result := readForm sbcA (.absY w) (Config.baseCycles 0xF9) .pageCross s
def execSbcIndX (b1 : Byte) (s : State) : Result := readForm sbcA (.indX b1) (Config.baseCycles 0xE1) .none s
def execSbcIndY (b1 : Byte) (s : State) : Result := readForm sbcA (.indY b1) (Config.baseCycles 0xF1) .pageCross s

-- CMP, R143
def execCmpImm (b1 : Byte) (s : State) : Result := readForm cmpA (.imm b1) (Config.baseCycles 0xC9) .none s
def execCmpZp (b1 : Byte) (s : State) : Result := readForm cmpA (.zp b1) (Config.baseCycles 0xC5) .none s
def execCmpZpX (b1 : Byte) (s : State) : Result := readForm cmpA (.zpX b1) (Config.baseCycles 0xD5) .none s
def execCmpAbs (w : Word) (s : State) : Result := readForm cmpA (.abs w) (Config.baseCycles 0xCD) .none s
def execCmpAbsX (w : Word) (s : State) : Result := readForm cmpA (.absX w) (Config.baseCycles 0xDD) .pageCross s
def execCmpAbsY (w : Word) (s : State) : Result := readForm cmpA (.absY w) (Config.baseCycles 0xD9) .pageCross s
def execCmpIndX (b1 : Byte) (s : State) : Result := readForm cmpA (.indX b1) (Config.baseCycles 0xC1) .none s
def execCmpIndY (b1 : Byte) (s : State) : Result := readForm cmpA (.indY b1) (Config.baseCycles 0xD1) .pageCross s

-- CPX, R144
def execCpxImm (b1 : Byte) (s : State) : Result := readForm cmpX (.imm b1) (Config.baseCycles 0xE0) .none s
def execCpxZp (b1 : Byte) (s : State) : Result := readForm cmpX (.zp b1) (Config.baseCycles 0xE4) .none s
def execCpxAbs (w : Word) (s : State) : Result := readForm cmpX (.abs w) (Config.baseCycles 0xEC) .none s

-- CPY, R145
def execCpyImm (b1 : Byte) (s : State) : Result := readForm cmpY (.imm b1) (Config.baseCycles 0xC0) .none s
def execCpyZp (b1 : Byte) (s : State) : Result := readForm cmpY (.zp b1) (Config.baseCycles 0xC4) .none s
def execCpyAbs (w : Word) (s : State) : Result := readForm cmpY (.abs w) (Config.baseCycles 0xCC) .none s

-- INC, R146
def execIncZp (b1 : Byte) (s : State) : Result := incForm (.zp b1) (Config.baseCycles 0xE6) s
def execIncZpX (b1 : Byte) (s : State) : Result := incForm (.zpX b1) (Config.baseCycles 0xF6) s
def execIncAbs (w : Word) (s : State) : Result := incForm (.abs w) (Config.baseCycles 0xEE) s
def execIncAbsX (w : Word) (s : State) : Result := incForm (.absX w) (Config.baseCycles 0xFE) s

-- DEC, R149
def execDecZp (b1 : Byte) (s : State) : Result := decForm (.zp b1) (Config.baseCycles 0xC6) s
def execDecZpX (b1 : Byte) (s : State) : Result := decForm (.zpX b1) (Config.baseCycles 0xD6) s
def execDecAbs (w : Word) (s : State) : Result := decForm (.abs w) (Config.baseCycles 0xCE) s
def execDecAbsX (w : Word) (s : State) : Result := decForm (.absX w) (Config.baseCycles 0xDE) s

-- INX, INY, DEX, DEY, R147, R148, R150, R151
def execInx (s : State) : Result := impliedForm (moveX 1) (Config.baseCycles 0xE8) s
def execIny (s : State) : Result := impliedForm (moveY 1) (Config.baseCycles 0xC8) s
def execDex (s : State) : Result := impliedForm (moveX (-1)) (Config.baseCycles 0xCA) s
def execDey (s : State) : Result := impliedForm (moveY (-1)) (Config.baseCycles 0x88) s

end Sys2Proof.Machine
end

