-- ==== Sys2Proof/Machine/Branch.lean ====
section
/-! DEFINITION. Branches, jumps, subroutine call and return (spec/44_branch_jump.md rules R175 to R188). -/

namespace Sys2Proof.Machine

-- The eight branches: each reads one flag (R176 to R183)
def execBcc (b1 : Byte) (s : State) : Result := branchOn (!s.C) b1 (Config.baseCycles 0x90) s
def execBcs (b1 : Byte) (s : State) : Result := branchOn s.C b1 (Config.baseCycles 0xB0) s
def execBeq (b1 : Byte) (s : State) : Result := branchOn s.Z b1 (Config.baseCycles 0xF0) s
def execBne (b1 : Byte) (s : State) : Result := branchOn (!s.Z) b1 (Config.baseCycles 0xD0) s
def execBmi (b1 : Byte) (s : State) : Result := branchOn s.N b1 (Config.baseCycles 0x30) s
def execBpl (b1 : Byte) (s : State) : Result := branchOn (!s.N) b1 (Config.baseCycles 0x10) s
def execBvc (b1 : Byte) (s : State) : Result := branchOn (!s.V) b1 (Config.baseCycles 0x50) s
def execBvs (b1 : Byte) (s : State) : Result := branchOn s.V b1 (Config.baseCycles 0x70) s

-- JMP, R184
def execJmpAbs (w : Word) (s : State) : Result := finish w (Config.baseCycles 0x4C) s
def execJmpInd (w : Word) (s : State) : Result := finish (indirectTarget w s) (Config.baseCycles 0x6C) s

/-- JSR: pushes the address of its own last byte, high byte first (R185). -/
def execJsr (w : Word) (s : State) : Result := finish w (Config.baseCycles 0x20) (s.push16 (s.PC + 2))

/-- RTS: goes to the pulled word plus 1 (R186). -/
def execRts (s : State) : Result := finish (s.top16 + 1) (Config.baseCycles 0x60) s.drop16

end Sys2Proof.Machine
end

