-- ==== Sys2Proof/Machine/Control.lean ====
section
/-! DEFINITION. Flag instructions, no operation, software interrupt and its return (spec/46_control.md rules R205 to R215). -/

namespace Sys2Proof.Machine

-- The seven flag instructions: one flag each (R205 to R211, R213)
def execClc (s : State) : Result := impliedForm (fun s => s.setC false) (Config.baseCycles 0x18) s
def execSec (s : State) : Result := impliedForm (fun s => s.setC true) (Config.baseCycles 0x38) s
def execCli (s : State) : Result := impliedForm (fun s => s.setI false) (Config.baseCycles 0x58) s
def execSei (s : State) : Result := impliedForm (fun s => s.setI true) (Config.baseCycles 0x78) s
def execCld (s : State) : Result := impliedForm (fun s => s.setD false) (Config.baseCycles 0xD8) s
def execSed (s : State) : Result := impliedForm (fun s => s.setD true) (Config.baseCycles 0xF8) s
def execClv (s : State) : Result := impliedForm (fun s => s.setV false) (Config.baseCycles 0xB8) s

/-- NOP: advances PC and adds 2 to `cycles`, nothing else (R212). -/
def execNop (s : State) : Result := impliedForm (fun s => s) (Config.baseCycles 0xEA) s

/-- BRK takes the trap (R214, R222). -/
def execBrk (s : State) : Result := takeTrap (Config.baseCycles 0x00) s

/-- RTI returns from it (R215, R229). -/
def execRti (s : State) : Result := returnFromTrap (Config.baseCycles 0x40) s

end Sys2Proof.Machine
end

