-- ==== Sys2Proof/Machine/LoadStore.lean ====
section
/-! DEFINITION. Load, store and register transfer (spec/41_load_store.md rules R120 to R130): the work of each mnemonic once,
and one meaning for each opcode with its operand form, base cost (R95) and penalty class (R89, R114). -/

namespace Sys2Proof.Machine

/-- LDA (R121): the byte goes to A; Z and N from it. -/
def loadA (v : Byte) (s : State) : State := (s.setA v).setZN v

/-- LDX (R122): the byte goes to X; Z and N from it. -/
def loadX (v : Byte) (s : State) : State := (s.setX v).setZN v

/-- LDY (R123): the byte goes to Y; Z and N from it. -/
def loadY (v : Byte) (s : State) : State := (s.setY v).setZN v

-- LDA, R121
def execLdaImm (b1 : Byte) (s : State) : Result := readForm loadA (.imm b1) (Config.baseCycles 0xA9) .none s
def execLdaZp (b1 : Byte) (s : State) : Result := readForm loadA (.zp b1) (Config.baseCycles 0xA5) .none s
def execLdaZpX (b1 : Byte) (s : State) : Result := readForm loadA (.zpX b1) (Config.baseCycles 0xB5) .none s
def execLdaAbs (w : Word) (s : State) : Result := readForm loadA (.abs w) (Config.baseCycles 0xAD) .none s
def execLdaAbsX (w : Word) (s : State) : Result := readForm loadA (.absX w) (Config.baseCycles 0xBD) .pageCross s
def execLdaAbsY (w : Word) (s : State) : Result := readForm loadA (.absY w) (Config.baseCycles 0xB9) .pageCross s
def execLdaIndX (b1 : Byte) (s : State) : Result := readForm loadA (.indX b1) (Config.baseCycles 0xA1) .none s
def execLdaIndY (b1 : Byte) (s : State) : Result := readForm loadA (.indY b1) (Config.baseCycles 0xB1) .pageCross s

-- LDX, R122
def execLdxImm (b1 : Byte) (s : State) : Result := readForm loadX (.imm b1) (Config.baseCycles 0xA2) .none s
def execLdxZp (b1 : Byte) (s : State) : Result := readForm loadX (.zp b1) (Config.baseCycles 0xA6) .none s
def execLdxZpY (b1 : Byte) (s : State) : Result := readForm loadX (.zpY b1) (Config.baseCycles 0xB6) .none s
def execLdxAbs (w : Word) (s : State) : Result := readForm loadX (.abs w) (Config.baseCycles 0xAE) .none s
def execLdxAbsY (w : Word) (s : State) : Result := readForm loadX (.absY w) (Config.baseCycles 0xBE) .pageCross s

-- LDY, R123
def execLdyImm (b1 : Byte) (s : State) : Result := readForm loadY (.imm b1) (Config.baseCycles 0xA0) .none s
def execLdyZp (b1 : Byte) (s : State) : Result := readForm loadY (.zp b1) (Config.baseCycles 0xA4) .none s
def execLdyZpX (b1 : Byte) (s : State) : Result := readForm loadY (.zpX b1) (Config.baseCycles 0xB4) .none s
def execLdyAbs (w : Word) (s : State) : Result := readForm loadY (.abs w) (Config.baseCycles 0xAC) .none s
def execLdyAbsX (w : Word) (s : State) : Result := readForm loadY (.absX w) (Config.baseCycles 0xBC) .pageCross s

-- STA, R124: no flag, no penalty
def execStaZp (b1 : Byte) (s : State) : Result := storeForm s.A (.zp b1) (Config.baseCycles 0x85) s
def execStaZpX (b1 : Byte) (s : State) : Result := storeForm s.A (.zpX b1) (Config.baseCycles 0x95) s
def execStaAbs (w : Word) (s : State) : Result := storeForm s.A (.abs w) (Config.baseCycles 0x8D) s
def execStaAbsX (w : Word) (s : State) : Result := storeForm s.A (.absX w) (Config.baseCycles 0x9D) s
def execStaAbsY (w : Word) (s : State) : Result := storeForm s.A (.absY w) (Config.baseCycles 0x99) s
def execStaIndX (b1 : Byte) (s : State) : Result := storeForm s.A (.indX b1) (Config.baseCycles 0x81) s
def execStaIndY (b1 : Byte) (s : State) : Result := storeForm s.A (.indY b1) (Config.baseCycles 0x91) s

-- STX, R125: no flag, no penalty
def execStxZp (b1 : Byte) (s : State) : Result := storeForm s.X (.zp b1) (Config.baseCycles 0x86) s
def execStxZpY (b1 : Byte) (s : State) : Result := storeForm s.X (.zpY b1) (Config.baseCycles 0x96) s
def execStxAbs (w : Word) (s : State) : Result := storeForm s.X (.abs w) (Config.baseCycles 0x8E) s

-- STY, R126: no flag, no penalty
def execStyZp (b1 : Byte) (s : State) : Result := storeForm s.Y (.zp b1) (Config.baseCycles 0x84) s
def execStyZpX (b1 : Byte) (s : State) : Result := storeForm s.Y (.zpX b1) (Config.baseCycles 0x94) s
def execStyAbs (w : Word) (s : State) : Result := storeForm s.Y (.abs w) (Config.baseCycles 0x8C) s

-- TAX, TAY, TXA, TYA, R127 to R130: Z and N from the byte moved
def execTax (s : State) : Result := impliedForm (fun s => loadX s.A s) (Config.baseCycles 0xAA) s
def execTay (s : State) : Result := impliedForm (fun s => loadY s.A s) (Config.baseCycles 0xA8) s
def execTxa (s : State) : Result := impliedForm (fun s => loadA s.X s) (Config.baseCycles 0x8A) s
def execTya (s : State) : Result := impliedForm (fun s => loadA s.Y s) (Config.baseCycles 0x98) s

end Sys2Proof.Machine
end

