-- ==== Sys2Proof/Machine/Logic.lean ====
section
/-! DEFINITION. Logic, bit test, shift and rotate (spec/43_logic_shift.md rules R160 to R169). -/

namespace Sys2Proof.Machine

/-- AND (R161). -/
def andA (m : Byte) (s : State) : State := loadA (s.A &&& m) s

/-- ORA (R162). -/
def oraA (m : Byte) (s : State) : State := loadA (s.A ||| m) s

/-- EOR (R163). -/
def eorA (m : Byte) (s : State) : State := loadA (s.A ^^^ m) s

/-- The flags of a shift or rotate to the left: C is the old bit 7; Z and N from the new byte (R165, R167). -/
def leftFlags (old new : Byte) (s : State) : State := (s.setC (byteBit old 7)).setZN new

/-- The flags of a shift or rotate to the right: C is the old bit 0; Z and N from the new byte (R166, R168). -/
def rightFlags (old new : Byte) (s : State) : State := (s.setC (byteBit old 0)).setZN new

/-- ASL: the vacated bit 0 is 0 (R165). -/
def aslForm (o : Operand) (base : Nat) (s : State) : Result := modifyForm (fun b => shiftLeft b false) leftFlags o base s

/-- LSR: the vacated bit 7 is 0 (R166). -/
def lsrForm (o : Operand) (base : Nat) (s : State) : Result := modifyForm (fun b => shiftRight b false) rightFlags o base s

/-- ROL: the vacated bit 0 is the old C (R167). -/
def rolForm (o : Operand) (base : Nat) (s : State) : Result := modifyForm (fun b => shiftLeft b s.C) leftFlags o base s

/-- ROR: the vacated bit 7 is the old C (R168). -/
def rorForm (o : Operand) (base : Nat) (s : State) : Result := modifyForm (fun b => shiftRight b s.C) rightFlags o base s

-- AND, R161
def execAndImm (b1 : Byte) (s : State) : Result := readForm andA (.imm b1) (Config.baseCycles 0x29) .none s
def execAndZp (b1 : Byte) (s : State) : Result := readForm andA (.zp b1) (Config.baseCycles 0x25) .none s
def execAndZpX (b1 : Byte) (s : State) : Result := readForm andA (.zpX b1) (Config.baseCycles 0x35) .none s
def execAndAbs (w : Word) (s : State) : Result := readForm andA (.abs w) (Config.baseCycles 0x2D) .none s
def execAndAbsX (w : Word) (s : State) : Result := readForm andA (.absX w) (Config.baseCycles 0x3D) .pageCross s
def execAndAbsY (w : Word) (s : State) : Result := readForm andA (.absY w) (Config.baseCycles 0x39) .pageCross s
def execAndIndX (b1 : Byte) (s : State) : Result := readForm andA (.indX b1) (Config.baseCycles 0x21) .none s
def execAndIndY (b1 : Byte) (s : State) : Result := readForm andA (.indY b1) (Config.baseCycles 0x31) .pageCross s

-- ORA, R162
def execOraImm (b1 : Byte) (s : State) : Result := readForm oraA (.imm b1) (Config.baseCycles 0x09) .none s
def execOraZp (b1 : Byte) (s : State) : Result := readForm oraA (.zp b1) (Config.baseCycles 0x05) .none s
def execOraZpX (b1 : Byte) (s : State) : Result := readForm oraA (.zpX b1) (Config.baseCycles 0x15) .none s
def execOraAbs (w : Word) (s : State) : Result := readForm oraA (.abs w) (Config.baseCycles 0x0D) .none s
def execOraAbsX (w : Word) (s : State) : Result := readForm oraA (.absX w) (Config.baseCycles 0x1D) .pageCross s
def execOraAbsY (w : Word) (s : State) : Result := readForm oraA (.absY w) (Config.baseCycles 0x19) .pageCross s
def execOraIndX (b1 : Byte) (s : State) : Result := readForm oraA (.indX b1) (Config.baseCycles 0x01) .none s
def execOraIndY (b1 : Byte) (s : State) : Result := readForm oraA (.indY b1) (Config.baseCycles 0x11) .pageCross s

-- EOR, R163
def execEorImm (b1 : Byte) (s : State) : Result := readForm eorA (.imm b1) (Config.baseCycles 0x49) .none s
def execEorZp (b1 : Byte) (s : State) : Result := readForm eorA (.zp b1) (Config.baseCycles 0x45) .none s
def execEorZpX (b1 : Byte) (s : State) : Result := readForm eorA (.zpX b1) (Config.baseCycles 0x55) .none s
def execEorAbs (w : Word) (s : State) : Result := readForm eorA (.abs w) (Config.baseCycles 0x4D) .none s
def execEorAbsX (w : Word) (s : State) : Result := readForm eorA (.absX w) (Config.baseCycles 0x5D) .pageCross s
def execEorAbsY (w : Word) (s : State) : Result := readForm eorA (.absY w) (Config.baseCycles 0x59) .pageCross s
def execEorIndX (b1 : Byte) (s : State) : Result := readForm eorA (.indX b1) (Config.baseCycles 0x41) .none s
def execEorIndY (b1 : Byte) (s : State) : Result := readForm eorA (.indY b1) (Config.baseCycles 0x51) .pageCross s

-- BIT, R164
def execBitZp (b1 : Byte) (s : State) : Result := readForm bitTest (.zp b1) (Config.baseCycles 0x24) .none s
def execBitAbs (w : Word) (s : State) : Result := readForm bitTest (.abs w) (Config.baseCycles 0x2C) .none s

-- ASL, R165, R169
def execAslAcc (s : State) : Result := aslForm .acc (Config.baseCycles 0x0A) s
def execAslZp (b1 : Byte) (s : State) : Result := aslForm (.zp b1) (Config.baseCycles 0x06) s
def execAslZpX (b1 : Byte) (s : State) : Result := aslForm (.zpX b1) (Config.baseCycles 0x16) s
def execAslAbs (w : Word) (s : State) : Result := aslForm (.abs w) (Config.baseCycles 0x0E) s
def execAslAbsX (w : Word) (s : State) : Result := aslForm (.absX w) (Config.baseCycles 0x1E) s

-- LSR, R166, R169
def execLsrAcc (s : State) : Result := lsrForm .acc (Config.baseCycles 0x4A) s
def execLsrZp (b1 : Byte) (s : State) : Result := lsrForm (.zp b1) (Config.baseCycles 0x46) s
def execLsrZpX (b1 : Byte) (s : State) : Result := lsrForm (.zpX b1) (Config.baseCycles 0x56) s
def execLsrAbs (w : Word) (s : State) : Result := lsrForm (.abs w) (Config.baseCycles 0x4E) s
def execLsrAbsX (w : Word) (s : State) : Result := lsrForm (.absX w) (Config.baseCycles 0x5E) s

-- ROL, R167, R169
def execRolAcc (s : State) : Result := rolForm .acc (Config.baseCycles 0x2A) s
def execRolZp (b1 : Byte) (s : State) : Result := rolForm (.zp b1) (Config.baseCycles 0x26) s
def execRolZpX (b1 : Byte) (s : State) : Result := rolForm (.zpX b1) (Config.baseCycles 0x36) s
def execRolAbs (w : Word) (s : State) : Result := rolForm (.abs w) (Config.baseCycles 0x2E) s
def execRolAbsX (w : Word) (s : State) : Result := rolForm (.absX w) (Config.baseCycles 0x3E) s

-- ROR, R168, R169
def execRorAcc (s : State) : Result := rorForm .acc (Config.baseCycles 0x6A) s
def execRorZp (b1 : Byte) (s : State) : Result := rorForm (.zp b1) (Config.baseCycles 0x66) s
def execRorZpX (b1 : Byte) (s : State) : Result := rorForm (.zpX b1) (Config.baseCycles 0x76) s
def execRorAbs (w : Word) (s : State) : Result := rorForm (.abs w) (Config.baseCycles 0x6E) s
def execRorAbsX (w : Word) (s : State) : Result := rorForm (.absX w) (Config.baseCycles 0x7E) s

end Sys2Proof.Machine
end

