-- ==== Sys2Proof/Machine/Stack.lean ====
section
/-! DEFINITION. Stack instructions (spec/45_stack.md rules R195 to R201). -/

namespace Sys2Proof.Machine

/-- PHA (R195). -/
def execPha (s : State) : Result := impliedForm (fun s => s.push8 s.A) (Config.baseCycles 0x48) s

/-- PHP: the stored B does not matter and is not changed (R196). -/
def execPhp (s : State) : Result := impliedForm (fun s => s.push8 (packP s)) (Config.baseCycles 0x08) s

/-- PLA: Z and N from the pulled byte (R197). -/
def execPla (s : State) : Result := impliedForm (fun s => loadA s.top8 s.drop8) (Config.baseCycles 0x68) s

/-- PLP: bits 5 and 4 of the pulled byte are discarded, B is unchanged (R198). -/
def execPlp (s : State) : Result := impliedForm (fun s => unpackP s.drop8 s.top8) (Config.baseCycles 0x28) s

/-- TSX: Z and N from the byte moved (R199). -/
def execTsx (s : State) : Result := impliedForm (fun s => loadX s.SP s) (Config.baseCycles 0xBA) s

/-- TXS: writes no flag (R200). -/
def execTxs (s : State) : Result := impliedForm (fun s => s.setSP s.X) (Config.baseCycles 0x9A) s

end Sys2Proof.Machine
end

