-- ==== Sys2Proof/Machine/Step.lean ====
section
/-! DEFINITION. `Step`, the unit of execution (spec/30_encoding.md rule R85), and the placing of one instruction where
the next step fetches. -/

namespace Sys2Proof.Machine

/-- One step (R85; DESIGN CHOICE and DEDUCED, notes/assumptions/1.md and 6.md). With the latch set the step is refused: it
runs nothing and answers the latched fault (step 0; R224). Else the instruction at PC is fetched and run (steps 1 to 4);
an opcode byte outside the map sets the latch and nothing else (step 2; R91, R224). -/
def step (s : State) : Host.Outcome State Fault Refusal :=
  match s.fault with
  | some f => .fault f
  | none =>
    match fetch s with
    | .ok (i, _) => exec i s
    | .error _ => .next (raiseIllegalOpcode s)

/-- `s` with the instruction whose bits are `w`, every bit from `nbits` on zero, stored where `step` fetches. It stands
for the loader's writes before the first step (R74, R258; DESIGN CHOICE, notes/assumptions/2.md). -/
def State.withFetchWord (s : State) (nbits w : Nat) : State := placeAtPC s (w % 2 ^ nbits)

end Sys2Proof.Machine
end

