-- ==== Sys2Proof/Machine/HostEvents.lean ====
section
/-! DEFINITION. What the host does to the block between steps (spec/70_reset_and_hazards.md rules R250 to R262): the host
events as functions on the state, what each returns, and the two launch sequences of R254. `step` uses none of them.
Host writes and a second `PowerUp` are allowed at any time (DESIGN CHOICE, notes/assumptions/5.md). -/

namespace Sys2Proof.Machine

/-- What `PowerUp` and `Reset` do to everything but memory (R250, R252): registers, flags, counter and latch, then PC from
the word at `VEC_RESET` in the memory as it is. -/
def initRegisters (s : State) : State :=
  { s with
    A := Config.resetA, X := Config.resetX, Y := Config.resetY, SP := Config.resetSP
    C := Config.resetC, Z := Config.resetZ, I := Config.resetI, D := Config.resetD
    B := Config.resetB, V := Config.resetV, N := Config.resetN
    cycles := Config.resetCycles, fault := none
    PC := s.readWord Config.vecReset }

/-- `PowerUp`: memory is zeroed first (R250; D5). -/
def powerUp (s : State) : State := initRegisters (s.setMem Memory.zeroed)

/-- `Reset`: `PowerUp` without the zeroing (R252; D6). -/
def warmReset (s : State) : State := initRegisters s

/-- `HostWrite(addr, byte)` (R258). The spec lets a model allow it after the first step (R5, R258; U3): it is allowed. -/
def hostWrite (addr : Word) (v : Byte) (s : State) : State := s.writeByte addr v

/-- `HostRead(addr)` (R258). -/
def hostRead (addr : Word) (s : State) : Byte := s.readByte addr

/-- `ReadCycles` (R261). -/
def readCycles (s : State) : Nat := s.cycles

/-- `ResetCycles` (R261). -/
def resetCycles (s : State) : State := s.setCycles 0

/-- The read of the fault latch (R41, R256). -/
def readFault (s : State) : Option Fault := s.fault

/-- The numeric label R221 gives the trap; it has no hardware meaning (D2). -/
def trapCode : Nat := 0

/-- The numeric label R221 gives the fault; it has no hardware meaning (D2). -/
def faultCode (f : Fault) : Nat :=
  match f with
  | .illegalOpcode _ _ => 1

/-- The host events (R256). -/
inductive HostEvent where
  | powerUp | reset | step
  | hostWrite (addr : Word) (v : Byte) | hostRead (addr : Word)
  | readCycles | resetCycles | readFault
  deriving DecidableEq, Repr

/-- What an event returns to the host. -/
inductive HostReply where
  | nothing | byte (v : Byte) | count (n : Nat) | latch (f : Option Fault)
  deriving DecidableEq, Repr

/-- What an event does to the state; each is atomic, between steps (R256, R262). -/
def applyEvent (e : HostEvent) (s : State) : Result :=
  match e with
  | .powerUp => .next (powerUp s)
  | .reset => .next (warmReset s)
  | .step => step s
  | .hostWrite a v => .next (hostWrite a v s)
  | .hostRead _ => .next s
  | .readCycles => .next s
  | .resetCycles => .next (resetCycles s)
  | .readFault => .next s

/-- What an event returns (R258, R261, R41). -/
def replyTo (e : HostEvent) (s : State) : HostReply :=
  match e with
  | .hostRead a => .byte (hostRead a s)
  | .readCycles => .count (readCycles s)
  | .readFault => .latch (readFault s)
  | .powerUp | .reset | .step | .hostWrite _ _ | .resetCycles => .nothing

/-- A list of events, one after another; a `Step` that answers no next state ends the run (R224, R262). -/
def runEvents : List HostEvent → State → Result
  | [], s => .next s
  | e :: es, s =>
    match applyEvent e s with
    | .next t => runEvents es t
    | .fault f => .fault f
    | .refused r => .refused r

/-- The loader's writes of an image (R74, R258). -/
def imageEvents (image : List (Word × Byte)) : List HostEvent := image.map fun p => .hostWrite p.1 p.2

/-- Launch sequence A: `PowerUp`, then the image, with code at 0x0000 (R253, R254). -/
def launchA (image : List (Word × Byte)) : List HostEvent := .powerUp :: imageEvents image

/-- Launch sequence B: `PowerUp`, then the image with its entry address at `VEC_RESET`, then `Reset` (R253, R254). -/
def launchB (image : List (Word × Byte)) : List HostEvent := .powerUp :: (imageEvents image ++ [.reset])

end Sys2Proof.Machine
end

