-- ==== Sys2Proof/Safety.lean ====
section
/-! DEFINITION. What counts as a safe run, in the terms claims use: a step completes when it answers a next state with the
latch clear (spec/10_state.md rule R39, spec/60_exceptions.md rule R224), and a run is safe as long as its steps complete
(spec/30_encoding.md rule R85, spec/70_reset_and_hazards.md rule R257). -/

namespace Sys2Proof

open Sys2Proof.Machine

/-- The core can step: the latch is clear (R85 step 0). -/
abbrev Running (s : State) : Prop := s.fault = none

/-- A completed step: one instruction has been performed (R39, R224). -/
def Completes (s t : State) : Prop := step s = .next t ∧ Running t

/-- The first `n` steps from `s` all complete (R257). -/
def SafeFor : Nat → State → Prop
  | 0, _ => True
  | n + 1, s => ∃ t, Completes s t ∧ SafeFor n t

/-- The memory is in its canonical form: the one invariant between fields and their representation. -/
abbrev Canonical (s : State) : Prop := s.mem.wf = true

end Sys2Proof
end

