-- ==== Sys2Proof/Certificates/Slice0/Obligations.lean ====
section
/-! DEFINITION. The statements for the provers. The first part restates what the rules of spec/ say in terms of their own:
the forms each rule lists (its opcode bytes and cycle counts), the status byte bit by bit, the base costs by class (R95),
the writers of each register and flag. The second part is the obligations. -/

namespace Sys2Proof.Spec

open Sys2Proof.Machine

/-- One form of an instruction as its rule lists it: opcode byte, operand, the instruction, the cycles of its `Cycles` line,
and whether that entry carries the `+` of the page-cross penalty. -/
structure Form where
  opcode : Byte
  operand : Operand
  instr : Instr
  cycles : Nat
  plus : Bool

/-- The operand bytes of a form, low byte first (R81, R83). -/
def operandBytes : Operand → List Byte
  | .acc => []
  | .imm b1 | .zp b1 | .zpX b1 | .zpY b1 | .indX b1 | .indY b1 => [b1]
  | .abs w | .absX w | .absY w => [lo8 w, hi8 w]

/-- The bytes of a form (R80). -/
def Form.bytes (f : Form) : List Byte := f.opcode :: operandBytes f.operand

/-- The form is encoded as its rule says, whatever bytes follow it. -/
def Form.IsEncoded (f : Form) : Prop := encode f.instr = f.bytes ∧ ∀ rest, decode (f.bytes ++ rest) = .ok (f.instr, rest)

/-- The address of the next instruction, `u16(pc0 + len)` (R85). -/
def Form.next (f : Form) (s : State) : Word := s.PC + BitVec.ofNat 16 f.bytes.length

/-- What the form adds to `cycles`: one more than its entry where that has a `+` and the index changes the page (R114). -/
def Form.cost (f : Form) (s : State) : Nat :=
  f.cycles + if f.plus = true ∧ hi8 (baseAddr f.operand s) ≠ hi8 (effAddr f.operand s) then 1 else 0

/-- The byte `LoadOperand` gives (R116). -/
def Form.loaded (f : Form) (s : State) : Byte :=
  match f.operand with
  | .imm b1 => b1
  | .acc => s.A
  | o => s.readByte (effAddr o s)

/-- An instruction that reads an operand byte, has `effect` with it, falls through, and does nothing else. -/
def ReadsAs (forms : Byte → Word → List Form) (effect : Byte → State → State) : Prop :=
  ∀ (b1 : Byte) (w : Word), ∀ f ∈ forms b1 w, f.IsEncoded ∧ ∀ s : State, exec f.instr s =
    .next { effect (f.loaded s) s with PC := f.next s, cycles := s.cycles + f.cost s }

/-- Memory after a store of `v` at `ea`: every other cell as before; from a canonical memory the cell holds `v` and the form
is kept. -/
def StoredOnly (s t : State) (ea : Word) (v : Byte) : Prop :=
  (∀ a, a ≠ ea → t.readByte a = s.readByte a) ∧ (s.mem.wf = true → t.readByte ea = v ∧ t.mem.wf = true)

/-- An instruction that stores a register at its effective address, falls through, and does nothing else. -/
def StoresAs (forms : Byte → Word → List Form) (reg : State → Byte) : Prop :=
  ∀ (b1 : Byte) (w : Word), ∀ f ∈ forms b1 w, f.IsEncoded ∧ ∀ s : State, ∃ t, exec f.instr s = .next t ∧
    t = { s with mem := t.mem, PC := f.next s, cycles := s.cycles + f.cost s } ∧
    StoredOnly s t (effAddr f.operand s) (reg s)

/-- A read-modify-write instruction: the new byte replaces the old one where it was read, in A or in one memory cell; the
flags are those of `effect`, from the old and the new byte. -/
def ModifiesAs (forms : Byte → Word → List Form) (new : Byte → Bool → Byte) (effect : Byte → Byte → State → State) : Prop :=
  ∀ (b1 : Byte) (w : Word), ∀ f ∈ forms b1 w, f.IsEncoded ∧ ∀ s : State, ∃ t, exec f.instr s = .next t ∧
    t = { effect (f.loaded s) (new (f.loaded s) s.C) s with
            A := if f.operand = .acc then new (f.loaded s) s.C else s.A
            mem := t.mem, PC := f.next s, cycles := s.cycles + f.cost s } ∧
    (f.operand = .acc → t.mem = s.mem) ∧
    (f.operand ≠ .acc → StoredOnly s t (effAddr f.operand s) (new (f.loaded s) s.C))

/-- Z and N from a result byte (R35). -/
def withZN (s : State) (v : Byte) : State := { s with Z := decide (v = 0x00), N := v.getLsbD 7 }

/-- C, Z and N of a compare of two bytes (R153). -/
def withCompare (s : State) (reg m : Byte) : State :=
  { s with C := decide (m.toNat ≤ reg.toNat), Z := decide (reg = m), N := (reg - m).getLsbD 7 }

/-- A sum or difference does not fit the two's-complement range of a byte (R152). -/
abbrev OutOfRange (t : Int) : Prop := t < -128 ∨ 127 < t

/-- The carry as an integer (R8). -/
def carryInt (c : Bool) : Int := if c then 1 else 0

/-- The status byte that PHP and BRK push, bit by bit (R36, R37). -/
def IsStatusByte (p : Byte) (s : State) : Prop :=
  p.getLsbD 7 = s.N ∧ p.getLsbD 6 = s.V ∧ p.getLsbD 5 = true ∧ p.getLsbD 4 = true ∧ p.getLsbD 3 = s.D ∧
    p.getLsbD 2 = s.I ∧ p.getLsbD 1 = s.Z ∧ p.getLsbD 0 = s.C

/-- The six flags PLP and RTI take from a pulled byte (R38). -/
def withPulledFlags (s : State) (p : Byte) : State :=
  { s with
    N := p.getLsbD 7, V := p.getLsbD 6, D := p.getLsbD 3, I := p.getLsbD 2, Z := p.getLsbD 1, C := p.getLsbD 0 }

/-- The forms of LDA (R121). -/
def ldaForms (b1 : Byte) (w : Word) : List Form :=
  [⟨0xA9, .imm b1, .ldaImm b1, 2, false⟩, ⟨0xA5, .zp b1, .ldaZp b1, 3, false⟩,
   ⟨0xB5, .zpX b1, .ldaZpX b1, 4, false⟩, ⟨0xAD, .abs w, .ldaAbs w, 4, false⟩,
   ⟨0xBD, .absX w, .ldaAbsX w, 4, true⟩, ⟨0xB9, .absY w, .ldaAbsY w, 4, true⟩,
   ⟨0xA1, .indX b1, .ldaIndX b1, 6, false⟩, ⟨0xB1, .indY b1, .ldaIndY b1, 5, true⟩]

/-- The forms of LDX (R122). -/
def ldxForms (b1 : Byte) (w : Word) : List Form :=
  [⟨0xA2, .imm b1, .ldxImm b1, 2, false⟩, ⟨0xA6, .zp b1, .ldxZp b1, 3, false⟩,
   ⟨0xB6, .zpY b1, .ldxZpY b1, 4, false⟩, ⟨0xAE, .abs w, .ldxAbs w, 4, false⟩,
   ⟨0xBE, .absY w, .ldxAbsY w, 4, true⟩]

/-- The forms of LDY (R123). -/
def ldyForms (b1 : Byte) (w : Word) : List Form :=
  [⟨0xA0, .imm b1, .ldyImm b1, 2, false⟩, ⟨0xA4, .zp b1, .ldyZp b1, 3, false⟩,
   ⟨0xB4, .zpX b1, .ldyZpX b1, 4, false⟩, ⟨0xAC, .abs w, .ldyAbs w, 4, false⟩,
   ⟨0xBC, .absX w, .ldyAbsX w, 4, true⟩]

/-- The forms of STA (R124). -/
def staForms (b1 : Byte) (w : Word) : List Form :=
  [⟨0x85, .zp b1, .staZp b1, 3, false⟩, ⟨0x95, .zpX b1, .staZpX b1, 4, false⟩,
   ⟨0x8D, .abs w, .staAbs w, 4, false⟩, ⟨0x9D, .absX w, .staAbsX w, 5, false⟩,
   ⟨0x99, .absY w, .staAbsY w, 5, false⟩, ⟨0x81, .indX b1, .staIndX b1, 6, false⟩,
   ⟨0x91, .indY b1, .staIndY b1, 6, false⟩]

/-- The forms of STX (R125). -/
def stxForms (b1 : Byte) (w : Word) : List Form :=
  [⟨0x86, .zp b1, .stxZp b1, 3, false⟩, ⟨0x96, .zpY b1, .stxZpY b1, 4, false⟩, ⟨0x8E, .abs w, .stxAbs w, 4, false⟩]

/-- The forms of STY (R126). -/
def styForms (b1 : Byte) (w : Word) : List Form :=
  [⟨0x84, .zp b1, .styZp b1, 3, false⟩, ⟨0x94, .zpX b1, .styZpX b1, 4, false⟩, ⟨0x8C, .abs w, .styAbs w, 4, false⟩]

/-- The forms of ADC (R141). -/
def adcForms (b1 : Byte) (w : Word) : List Form :=
  [⟨0x69, .imm b1, .adcImm b1, 2, false⟩, ⟨0x65, .zp b1, .adcZp b1, 3, false⟩,
   ⟨0x75, .zpX b1, .adcZpX b1, 4, false⟩, ⟨0x6D, .abs w, .adcAbs w, 4, false⟩,
   ⟨0x7D, .absX w, .adcAbsX w, 4, true⟩, ⟨0x79, .absY w, .adcAbsY w, 4, true⟩,
   ⟨0x61, .indX b1, .adcIndX b1, 6, false⟩, ⟨0x71, .indY b1, .adcIndY b1, 5, true⟩]

/-- The forms of SBC (R142). -/
def sbcForms (b1 : Byte) (w : Word) : List Form :=
  [⟨0xE9, .imm b1, .sbcImm b1, 2, false⟩, ⟨0xE5, .zp b1, .sbcZp b1, 3, false⟩,
   ⟨0xF5, .zpX b1, .sbcZpX b1, 4, false⟩, ⟨0xED, .abs w, .sbcAbs w, 4, false⟩,
   ⟨0xFD, .absX w, .sbcAbsX w, 4, true⟩, ⟨0xF9, .absY w, .sbcAbsY w, 4, true⟩,
   ⟨0xE1, .indX b1, .sbcIndX b1, 6, false⟩, ⟨0xF1, .indY b1, .sbcIndY b1, 5, true⟩]

/-- The forms of CMP (R143). -/
def cmpForms (b1 : Byte) (w : Word) : List Form :=
  [⟨0xC9, .imm b1, .cmpImm b1, 2, false⟩, ⟨0xC5, .zp b1, .cmpZp b1, 3, false⟩,
   ⟨0xD5, .zpX b1, .cmpZpX b1, 4, false⟩, ⟨0xCD, .abs w, .cmpAbs w, 4, false⟩,
   ⟨0xDD, .absX w, .cmpAbsX w, 4, true⟩, ⟨0xD9, .absY w, .cmpAbsY w, 4, true⟩,
   ⟨0xC1, .indX b1, .cmpIndX b1, 6, false⟩, ⟨0xD1, .indY b1, .cmpIndY b1, 5, true⟩]

/-- The forms of CPX (R144). -/
def cpxForms (b1 : Byte) (w : Word) : List Form :=
  [⟨0xE0, .imm b1, .cpxImm b1, 2, false⟩, ⟨0xE4, .zp b1, .cpxZp b1, 3, false⟩, ⟨0xEC, .abs w, .cpxAbs w, 4, false⟩]

/-- The forms of CPY (R145). -/
def cpyForms (b1 : Byte) (w : Word) : List Form :=
  [⟨0xC0, .imm b1, .cpyImm b1, 2, false⟩, ⟨0xC4, .zp b1, .cpyZp b1, 3, false⟩, ⟨0xCC, .abs w, .cpyAbs w, 4, false⟩]

/-- The forms of INC (R146). -/
def incForms (b1 : Byte) (w : Word) : List Form :=
  [⟨0xE6, .zp b1, .incZp b1, 5, false⟩, ⟨0xF6, .zpX b1, .incZpX b1, 6, false⟩,
   ⟨0xEE, .abs w, .incAbs w, 6, false⟩, ⟨0xFE, .absX w, .incAbsX w, 7, false⟩]

/-- The forms of DEC (R149). -/
def decForms (b1 : Byte) (w : Word) : List Form :=
  [⟨0xC6, .zp b1, .decZp b1, 5, false⟩, ⟨0xD6, .zpX b1, .decZpX b1, 6, false⟩,
   ⟨0xCE, .abs w, .decAbs w, 6, false⟩, ⟨0xDE, .absX w, .decAbsX w, 7, false⟩]

/-- The forms of AND (R161). -/
def andForms (b1 : Byte) (w : Word) : List Form :=
  [⟨0x29, .imm b1, .andImm b1, 2, false⟩, ⟨0x25, .zp b1, .andZp b1, 3, false⟩,
   ⟨0x35, .zpX b1, .andZpX b1, 4, false⟩, ⟨0x2D, .abs w, .andAbs w, 4, false⟩,
   ⟨0x3D, .absX w, .andAbsX w, 4, true⟩, ⟨0x39, .absY w, .andAbsY w, 4, true⟩,
   ⟨0x21, .indX b1, .andIndX b1, 6, false⟩, ⟨0x31, .indY b1, .andIndY b1, 5, true⟩]

/-- The forms of ORA (R162). -/
def oraForms (b1 : Byte) (w : Word) : List Form :=
  [⟨0x09, .imm b1, .oraImm b1, 2, false⟩, ⟨0x05, .zp b1, .oraZp b1, 3, false⟩,
   ⟨0x15, .zpX b1, .oraZpX b1, 4, false⟩, ⟨0x0D, .abs w, .oraAbs w, 4, false⟩,
   ⟨0x1D, .absX w, .oraAbsX w, 4, true⟩, ⟨0x19, .absY w, .oraAbsY w, 4, true⟩,
   ⟨0x01, .indX b1, .oraIndX b1, 6, false⟩, ⟨0x11, .indY b1, .oraIndY b1, 5, true⟩]

/-- The forms of EOR (R163). -/
def eorForms (b1 : Byte) (w : Word) : List Form :=
  [⟨0x49, .imm b1, .eorImm b1, 2, false⟩, ⟨0x45, .zp b1, .eorZp b1, 3, false⟩,
   ⟨0x55, .zpX b1, .eorZpX b1, 4, false⟩, ⟨0x4D, .abs w, .eorAbs w, 4, false⟩,
   ⟨0x5D, .absX w, .eorAbsX w, 4, true⟩, ⟨0x59, .absY w, .eorAbsY w, 4, true⟩,
   ⟨0x41, .indX b1, .eorIndX b1, 6, false⟩, ⟨0x51, .indY b1, .eorIndY b1, 5, true⟩]

/-- The forms of BIT (R164). -/
def bitForms (b1 : Byte) (w : Word) : List Form :=
  [⟨0x24, .zp b1, .bitZp b1, 3, false⟩, ⟨0x2C, .abs w, .bitAbs w, 4, false⟩]

/-- The forms of ASL (R165). -/
def aslForms (b1 : Byte) (w : Word) : List Form :=
  [⟨0x0A, .acc, .aslAcc, 2, false⟩, ⟨0x06, .zp b1, .aslZp b1, 5, false⟩, ⟨0x16, .zpX b1, .aslZpX b1, 6, false⟩,
   ⟨0x0E, .abs w, .aslAbs w, 6, false⟩, ⟨0x1E, .absX w, .aslAbsX w, 7, false⟩]

/-- The forms of LSR (R166). -/
def lsrForms (b1 : Byte) (w : Word) : List Form :=
  [⟨0x4A, .acc, .lsrAcc, 2, false⟩, ⟨0x46, .zp b1, .lsrZp b1, 5, false⟩, ⟨0x56, .zpX b1, .lsrZpX b1, 6, false⟩,
   ⟨0x4E, .abs w, .lsrAbs w, 6, false⟩, ⟨0x5E, .absX w, .lsrAbsX w, 7, false⟩]

/-- The forms of ROL (R167). -/
def rolForms (b1 : Byte) (w : Word) : List Form :=
  [⟨0x2A, .acc, .rolAcc, 2, false⟩, ⟨0x26, .zp b1, .rolZp b1, 5, false⟩, ⟨0x36, .zpX b1, .rolZpX b1, 6, false⟩,
   ⟨0x2E, .abs w, .rolAbs w, 6, false⟩, ⟨0x3E, .absX w, .rolAbsX w, 7, false⟩]

/-- The forms of ROR (R168). -/
def rorForms (b1 : Byte) (w : Word) : List Form :=
  [⟨0x6A, .acc, .rorAcc, 2, false⟩, ⟨0x66, .zp b1, .rorZp b1, 5, false⟩, ⟨0x76, .zpX b1, .rorZpX b1, 6, false⟩,
   ⟨0x6E, .abs w, .rorAbs w, 6, false⟩, ⟨0x7E, .absX w, .rorAbsX w, 7, false⟩]

/-- The eight branches: opcode byte, instruction, and the flag condition that takes it (R176 to R183). -/
def branchForms (b1 : Byte) : List (Byte × Instr × (State → Bool)) :=
  [(0x90, .bcc b1, fun s => !s.C), (0xB0, .bcs b1, fun s => s.C), (0xF0, .beq b1, fun s => s.Z),
   (0xD0, .bne b1, fun s => !s.Z), (0x30, .bmi b1, fun s => s.N), (0x10, .bpl b1, fun s => !s.N),
   (0x50, .bvc b1, fun s => !s.V), (0x70, .bvs b1, fun s => s.V)]

/-- The class of an instruction in the table of base costs (R95). -/
inductive CostClass where
  | read | write | modify | other
  deriving DecidableEq, Repr

def costClass : Mnemonic → CostClass
  | .lda | .ldx | .ldy | .adc | .sbc | .cmp | .cpx | .cpy | .and | .ora | .eor | .bit => .read
  | .sta | .stx | .sty => .write
  | .asl | .lsr | .rol | .ror | .inc | .dec => .modify
  | _ => .other

/-- The base cost by class and format (R95); 0 where the table has no entry. -/
def baseCost (m : Mnemonic) (f : Format) : Nat :=
  match costClass m, f with
  | .read, .immediate => 2
  | .read, .zeroPage => 3
  | .read, .zeroPageX | .read, .zeroPageY | .read, .absolute | .read, .absoluteX | .read, .absoluteY => 4
  | .read, .indirectX => 6
  | .read, .indirectY => 5
  | .write, .zeroPage => 3
  | .write, .zeroPageX | .write, .zeroPageY | .write, .absolute => 4
  | .write, .absoluteX | .write, .absoluteY => 5
  | .write, .indirectX | .write, .indirectY => 6
  | .modify, .accumulator => 2
  | .modify, .zeroPage => 5
  | .modify, .zeroPageX | .modify, .absolute => 6
  | .modify, .absoluteX => 7
  | .other, f =>
    match m with
    | .tax | .tay | .txa | .tya | .tsx | .txs | .inx | .iny | .dex | .dey => 2
    | .clc | .sec | .cli | .sei | .cld | .sed | .clv | .nop => 2
    | .pha | .php => 3
    | .pla | .plp => 4
    | .jmp => if f = .absolute then 3 else 5
    | .jsr | .rts | .rti => 6
    | .brk => 7
    | _ => 2
  | _, _ => 0

/-- An 8-bit index added to an address changes its page (R115). -/
def indexCrosses (base : Word) (index : Byte) : Bool := decide (base.toNat / 256 ≠ (base.toNat + index.toNat) % 65536 / 256)

/-- The pointer of the indirect_y mode, both bytes from the zero page (R111). -/
def pointerAt (b1 : Byte) (s : State) : Word := mkWord (s.readByte (zext16 (b1 + 1))) (s.readByte (zext16 b1))

/-- The page-cross penalty: exactly the 23 opcodes of R114. -/
def pagePenalty (i : Instr) (s : State) : Nat :=
  bitNat (match i with
    | .ldaAbsX w | .ldyAbsX w | .adcAbsX w | .sbcAbsX w | .cmpAbsX w | .andAbsX w | .oraAbsX w | .eorAbsX w =>
      indexCrosses w s.X
    | .ldaAbsY w | .ldxAbsY w | .adcAbsY w | .sbcAbsY w | .cmpAbsY w | .andAbsY w | .oraAbsY w | .eorAbsY w =>
      indexCrosses w s.Y
    | .ldaIndY b1 | .adcIndY b1 | .sbcIndY b1 | .cmpIndY b1 | .andIndY b1 | .oraIndY b1 | .eorIndY b1 =>
      indexCrosses (pointerAt b1 s) s.Y
    | .brk | .oraImm _ | .oraZp _ | .oraZpX _ | .oraAbs _ | .oraIndX _ | .aslAcc | .aslZp _ | .aslZpX _
    | .aslAbs _ | .aslAbsX _ | .php | .bpl _ | .clc | .jsr _ | .andImm _ | .andZp _ | .andZpX _ | .andAbs _
    | .andIndX _ | .bitZp _ | .bitAbs _ | .rolAcc | .rolZp _ | .rolZpX _ | .rolAbs _ | .rolAbsX _ | .plp | .bmi _
    | .sec | .rti | .eorImm _ | .eorZp _ | .eorZpX _ | .eorAbs _ | .eorIndX _ | .lsrAcc | .lsrZp _ | .lsrZpX _
    | .lsrAbs _ | .lsrAbsX _ | .pha | .jmpAbs _ | .jmpInd _ | .bvc _ | .cli | .rts | .adcImm _ | .adcZp _
    | .adcZpX _ | .adcAbs _ | .adcIndX _ | .rorAcc | .rorZp _ | .rorZpX _ | .rorAbs _ | .rorAbsX _ | .pla | .bvs _
    | .sei | .staZp _ | .staZpX _ | .staAbs _ | .staAbsX _ | .staAbsY _ | .staIndX _ | .staIndY _ | .styZp _
    | .styZpX _ | .styAbs _ | .stxZp _ | .stxZpY _ | .stxAbs _ | .dey | .txa | .bcc _ | .tya | .txs | .ldyImm _
    | .ldyZp _ | .ldyZpX _ | .ldyAbs _ | .ldaImm _ | .ldaZp _ | .ldaZpX _ | .ldaAbs _ | .ldaIndX _ | .ldxImm _
    | .ldxZp _ | .ldxZpY _ | .ldxAbs _ | .tay | .tax | .bcs _ | .clv | .tsx | .cpyImm _ | .cpyZp _ | .cpyAbs _
    | .cmpImm _ | .cmpZp _ | .cmpZpX _ | .cmpAbs _ | .cmpIndX _ | .decZp _ | .decZpX _ | .decAbs _ | .decAbsX _
    | .iny | .dex | .bne _ | .cld | .cpxImm _ | .cpxZp _ | .cpxAbs _ | .sbcImm _ | .sbcZp _ | .sbcZpX _
    | .sbcAbs _ | .sbcIndX _ | .incZp _ | .incZpX _ | .incAbs _ | .incAbsX _ | .inx | .nop | .beq _ | .sed => false)

/-- One more cycle for a taken branch, one more again when the target is in another page than the next instruction (R175). -/
def takenPenalty (b1 : Byte) (s : State) : Nat :=
  1 + if hi8 (s.PC + 2) ≠ hi8 (s.PC + 2 + b1.signExtend 16) then 1 else 0

/-- The branch penalty (R175). -/
def branchPenalty (i : Instr) (s : State) : Nat :=
  match i with
  | .bcc b1 => if s.C then 0 else takenPenalty b1 s
  | .bcs b1 => if s.C then takenPenalty b1 s else 0
  | .bne b1 => if s.Z then 0 else takenPenalty b1 s
  | .beq b1 => if s.Z then takenPenalty b1 s else 0
  | .bpl b1 => if s.N then 0 else takenPenalty b1 s
  | .bmi b1 => if s.N then takenPenalty b1 s else 0
  | .bvc b1 => if s.V then 0 else takenPenalty b1 s
  | .bvs b1 => if s.V then takenPenalty b1 s else 0
  | .brk | .oraImm _ | .oraZp _ | .oraZpX _ | .oraAbs _ | .oraAbsX _ | .oraAbsY _ | .oraIndX _ | .oraIndY _
  | .aslAcc | .aslZp _ | .aslZpX _ | .aslAbs _ | .aslAbsX _ | .php | .clc | .jsr _ | .andImm _ | .andZp _
  | .andZpX _ | .andAbs _ | .andAbsX _ | .andAbsY _ | .andIndX _ | .andIndY _ | .bitZp _ | .bitAbs _ | .rolAcc
  | .rolZp _ | .rolZpX _ | .rolAbs _ | .rolAbsX _ | .plp | .sec | .rti | .eorImm _ | .eorZp _ | .eorZpX _
  | .eorAbs _ | .eorAbsX _ | .eorAbsY _ | .eorIndX _ | .eorIndY _ | .lsrAcc | .lsrZp _ | .lsrZpX _ | .lsrAbs _
  | .lsrAbsX _ | .pha | .jmpAbs _ | .jmpInd _ | .cli | .rts | .adcImm _ | .adcZp _ | .adcZpX _ | .adcAbs _
  | .adcAbsX _ | .adcAbsY _ | .adcIndX _ | .adcIndY _ | .rorAcc | .rorZp _ | .rorZpX _ | .rorAbs _ | .rorAbsX _
  | .pla | .sei | .staZp _ | .staZpX _ | .staAbs _ | .staAbsX _ | .staAbsY _ | .staIndX _ | .staIndY _ | .styZp _
  | .styZpX _ | .styAbs _ | .stxZp _ | .stxZpY _ | .stxAbs _ | .dey | .txa | .tya | .txs | .ldyImm _ | .ldyZp _
  | .ldyZpX _ | .ldyAbs _ | .ldyAbsX _ | .ldaImm _ | .ldaZp _ | .ldaZpX _ | .ldaAbs _ | .ldaAbsX _ | .ldaAbsY _
  | .ldaIndX _ | .ldaIndY _ | .ldxImm _ | .ldxZp _ | .ldxZpY _ | .ldxAbs _ | .ldxAbsY _ | .tay | .tax | .clv
  | .tsx | .cpyImm _ | .cpyZp _ | .cpyAbs _ | .cmpImm _ | .cmpZp _ | .cmpZpX _ | .cmpAbs _ | .cmpAbsX _
  | .cmpAbsY _ | .cmpIndX _ | .cmpIndY _ | .decZp _ | .decZpX _ | .decAbs _ | .decAbsX _ | .iny | .dex | .cld
  | .cpxImm _ | .cpxZp _ | .cpxAbs _ | .sbcImm _ | .sbcZp _ | .sbcZpX _ | .sbcAbs _ | .sbcAbsX _ | .sbcAbsY _
  | .sbcIndX _ | .sbcIndY _ | .incZp _ | .incZpX _ | .incAbs _ | .incAbsX _ | .inx | .nop | .sed => 0

/-- Every cell an instruction stores to (R73 steps 5 and 6): the effective address of a store or of a memory form of a
read-modify-write instruction, and the stack cells of the pushes. -/
def storedCells (i : Instr) (s : State) : List Word :=
  match i with
  | .staZp b1 | .stxZp b1 | .styZp b1 | .incZp b1 | .decZp b1 | .aslZp b1 | .lsrZp b1 | .rolZp b1
  | .rorZp b1 => [effAddr (.zp b1) s]
  | .staZpX b1 | .styZpX b1 | .incZpX b1 | .decZpX b1 | .aslZpX b1 | .lsrZpX b1 | .rolZpX b1
  | .rorZpX b1 => [effAddr (.zpX b1) s]
  | .stxZpY b1 => [effAddr (.zpY b1) s]
  | .staAbs w | .stxAbs w | .styAbs w | .incAbs w | .decAbs w | .aslAbs w | .lsrAbs w | .rolAbs w
  | .rorAbs w => [effAddr (.abs w) s]
  | .staAbsX w | .incAbsX w | .decAbsX w | .aslAbsX w | .lsrAbsX w | .rolAbsX w
  | .rorAbsX w => [effAddr (.absX w) s]
  | .staAbsY w => [effAddr (.absY w) s]
  | .staIndX b1 => [effAddr (.indX b1) s]
  | .staIndY b1 => [effAddr (.indY b1) s]
  | .pha | .php => [stackAddr s.SP]
  | .jsr _ => [stackAddr s.SP, stackAddr (s.SP - 1)]
  | .brk => [stackAddr s.SP, stackAddr (s.SP - 1), stackAddr (s.SP - 2)]
  | .oraImm _ | .oraZp _ | .oraZpX _ | .oraAbs _ | .oraAbsX _ | .oraAbsY _ | .oraIndX _ | .oraIndY _ | .aslAcc
  | .bpl _ | .clc | .andImm _ | .andZp _ | .andZpX _ | .andAbs _ | .andAbsX _ | .andAbsY _ | .andIndX _
  | .andIndY _ | .bitZp _ | .bitAbs _ | .rolAcc | .plp | .bmi _ | .sec | .rti | .eorImm _ | .eorZp _ | .eorZpX _
  | .eorAbs _ | .eorAbsX _ | .eorAbsY _ | .eorIndX _ | .eorIndY _ | .lsrAcc | .jmpAbs _ | .jmpInd _ | .bvc _
  | .cli | .rts | .adcImm _ | .adcZp _ | .adcZpX _ | .adcAbs _ | .adcAbsX _ | .adcAbsY _ | .adcIndX _ | .adcIndY _
  | .rorAcc | .pla | .bvs _ | .sei | .dey | .txa | .bcc _ | .tya | .txs | .ldyImm _ | .ldyZp _ | .ldyZpX _
  | .ldyAbs _ | .ldyAbsX _ | .ldaImm _ | .ldaZp _ | .ldaZpX _ | .ldaAbs _ | .ldaAbsX _ | .ldaAbsY _ | .ldaIndX _
  | .ldaIndY _ | .ldxImm _ | .ldxZp _ | .ldxZpY _ | .ldxAbs _ | .ldxAbsY _ | .tay | .tax | .bcs _ | .clv | .tsx
  | .cpyImm _ | .cpyZp _ | .cpyAbs _ | .cmpImm _ | .cmpZp _ | .cmpZpX _ | .cmpAbs _ | .cmpAbsX _ | .cmpAbsY _
  | .cmpIndX _ | .cmpIndY _ | .iny | .dex | .bne _ | .cld | .cpxImm _ | .cpxZp _ | .cpxAbs _ | .sbcImm _
  | .sbcZp _ | .sbcZpX _ | .sbcAbs _ | .sbcAbsX _ | .sbcAbsY _ | .sbcIndX _ | .sbcIndY _ | .inx | .nop | .beq _
  | .sed => []

/-- Changes the state an outcome carries. -/
def mapNext (f : State → State) : Result → Result
  | .next s => .next (f s)
  | .fault e => .fault e
  | .refused e => .refused e

/-- Bytes written one after another from an address on, with wrap (R50, R80). -/
def writeBytes (a : Word) : List Byte → State → State
  | [], s => s
  | b :: bs, s => writeBytes (a + 1) bs (s.writeByte a b)

/-- The mnemonics that transfer control (R26). -/
def transfersControl (m : Mnemonic) : Bool :=
  [Mnemonic.bcc, .bcs, .beq, .bne, .bmi, .bpl, .bvc, .bvs, .jmp, .jsr, .rts, .rti, .brk].contains m

end Sys2Proof.Spec

open Sys2Proof Sys2Proof.Machine Sys2Proof.Spec

/-- Decoding an encoded instruction gives it back, whatever bytes follow -/
def Obligations.DecodeEncodeRoundTrip : Prop :=
  ∀ (i : Instr) (rest : List Byte), decode (encode i ++ rest) = .ok (i, rest)

/-- Every list of bytes that decodes is the encoding of what it decodes to -/
def Obligations.EncodeDecodeRoundTrip : Prop :=
  ∀ (bytes rest : List Byte) (i : Instr), decode bytes = .ok (i, rest) → bytes = encode i ++ rest

/-- The opcode byte alone decides whether there is an instruction and how long it is (R86, R91). The last clause, that a list
with too few operand bytes answers truncated, is no rule of the spec: it is the model's choice (DESIGN CHOICE,
notes/assumptions/10.md). -/
def Obligations.DecodingIsTotalAndByOpcode : Prop :=
  illegalOpcodes.length = 105 ∧ illegalOpcodes.Nodup ∧
  ∀ op : Byte,
    if op ∈ illegalOpcodes then ∀ rest, decode (op :: rest) = .error (.illegalOpcode op)
    else ∃ n, (n = 0 ∨ n = 1 ∨ n = 2) ∧
      (∀ operands rest : List Byte, operands.length = n →
        ∃ i, decode (op :: operands ++ rest) = .ok (i, rest) ∧ i.length = n + 1) ∧
      (∀ operands : List Byte, operands.length < n → decode (op :: operands) = .error (.truncated op))

/-- One word of each family, written out from the opcode map, decodes to the instruction it stands for -/
def Obligations.WrittenOutWordsDecode : Prop :=
  decode [0xBD, 0x34, 0x12] = .ok (.ldaAbsX 0x1234, []) ∧ decode [0x69, 0x10] = .ok (.adcImm 0x10, []) ∧
  decode [0x24, 0x10] = .ok (.bitZp 0x10, []) ∧ decode [0x6C, 0x34, 0x12] = .ok (.jmpInd 0x1234, []) ∧
  decode [0xF0, 0x0E] = .ok (.beq 0x0E, []) ∧ decode [0x48] = .ok (.pha, []) ∧ decode [0x00] = .ok (.brk, []) ∧
  decodeTableWord 24 0x1234BD = some (.ldaAbsX 0x1234) ∧ decodeTableWord 16 0x10B1 = some (.ldaIndY 0x10) ∧
  decodeTableWord 8 0x02 = none

/-- A step runs the instruction its bytes at PC decode to -/
def Obligations.StepRunsTheDecodedInstruction : Prop :=
  ∀ (s : State) (i : Instr) (rest : List Byte), s.fault = none →
    decode [s.readByte s.PC, s.readByte (s.PC + 1), s.readByte (s.PC + 2)] = .ok (i, rest) → step s = exec i s

/-- An instruction written into memory at PC is what the next step runs -/
def Obligations.StoredInstructionIsFetchedAndRun : Prop :=
  ∀ (s : State) (i : Instr), s.mem.wf = true → s.fault = none →
    step (writeBytes s.PC (encode i) s) = exec i (writeBytes s.PC (encode i) s)

/-- An illegal opcode byte sets the latch, changes nothing else, and stops the core until PowerUp or Reset. That the
faulting step answers a next state and a refused step none is the model's choice (notes/assumptions/1.md). -/
def Obligations.IllegalOpcodeSetsTheLatchOnly : Prop :=
  (∀ s : State, s.fault = none → s.readByte s.PC ∈ illegalOpcodes →
    step s = .next { s with fault := some (.illegalOpcode (s.readByte s.PC) s.PC) }) ∧
  (∀ (s t : State) (f : Fault), s.fault = some f → step s ≠ .next t) ∧
  (∀ s : State, (powerUp s).fault = none ∧ (warmReset s).fault = none) ∧
  (∀ (s t : State) (e : HostEvent) (f : Fault), s.fault = some f → applyEvent e s = .next t →
    e ≠ .powerUp → e ≠ .reset → t.fault = some f)

/-- A step stops exactly when the latch is set, with the latched fault, and never refuses. That a refused step of the spec
is the outcome fault is the model's choice (notes/assumptions/1.md). -/
def Obligations.StepStopsExactlyWhenLatched : Prop :=
  ∀ s : State, (∀ f, step s = .fault f ↔ s.fault = some f) ∧ ∀ r, step s ≠ .refused r

/-- Every instruction answers a next state from every state and leaves the latch as it was. That exec does not test the
latch is the model's deduction (notes/assumptions/6.md). -/
def Obligations.EveryInstructionCompletes : Prop :=
  ∀ (i : Instr) (s : State), ∃ t, exec i s = .next t ∧ t.fault = s.fault

/-- Every step from a canonical memory leaves a canonical memory. The form is the model's own (notes/assumptions/3.md). -/
def Obligations.StepKeepsMemoryCanonical : Prop :=
  ∀ s t : State, Canonical s → step s = .next t → Canonical t

/-- Every run of host events from a canonical memory, steps among them, leaves a canonical memory. The form is the model's
own (notes/assumptions/3.md), and so is the host beside the step (notes/assumptions/5.md). -/
def Obligations.HostRunsKeepMemoryCanonical : Prop :=
  ∀ (es : List HostEvent) (s t : State), Canonical s → runEvents es s = .next t → Canonical t

/-- The memory of the reset state is canonical. The form is the model's own (notes/assumptions/3.md). -/
def Obligations.ResetStateIsCanonical : Prop :=
  Canonical State.reset

/-- PowerUp leaves one fixed state whatever was there before -/
def Obligations.PowerUpLeavesTheResetState : Prop :=
  ∀ s : State, powerUp s = State.reset ∧
    (powerUp s).A = 0x00 ∧ (powerUp s).X = 0x00 ∧ (powerUp s).Y = 0x00 ∧ (powerUp s).SP = 0xFD ∧
    (powerUp s).PC = 0x0000 ∧ (powerUp s).C = false ∧ (powerUp s).Z = false ∧ (powerUp s).I = true ∧
    (powerUp s).D = false ∧ (powerUp s).B = false ∧ (powerUp s).V = false ∧ (powerUp s).N = false ∧
    (powerUp s).cycles = 0 ∧ (powerUp s).fault = none ∧ ∀ a : Word, (powerUp s).readByte a = 0x00

/-- Reset initialises registers, flags, counter and latch, keeps memory, and loads PC from 0xFFFC -/
def Obligations.ResetKeepsMemoryAndLoadsTheVector : Prop :=
  ∀ s : State, warmReset s =
    { s with
      A := 0x00, X := 0x00, Y := 0x00, SP := 0xFD
      C := false, Z := false, I := true, D := false, B := false, V := false, N := false
      cycles := 0, fault := none
      PC := mkWord (s.readByte 0xFFFD) (s.readByte 0xFFFC) }

/-- Both launch sequences give the launch state: image where written, zero elsewhere, PC at 0 or from the vector -/
def Obligations.LaunchSequencesGiveTheLaunchState : Prop :=
  ∀ (image : List (Word × Byte)) (s : State), ∃ a b : State,
    runEvents (launchA image) s = .next a ∧ runEvents (launchB image) s = .next b ∧
    a = { State.reset with mem := a.mem } ∧ b.mem = a.mem ∧
    b = { State.reset with mem := a.mem, PC := mkWord (a.readByte 0xFFFD) (a.readByte 0xFFFC) } ∧
    ∀ x : Word, a.readByte x = (image.reverse.lookup x).getD 0x00

/-- Host reads change nothing and return the cell, the counter and the latch; ResetCycles zeroes the counter alone -/
def Obligations.HostReadsAndCounterReset : Prop :=
  ∀ (s : State) (a : Word),
    applyEvent (.hostRead a) s = .next s ∧ replyTo (.hostRead a) s = .byte (s.readByte a) ∧
    applyEvent .readCycles s = .next s ∧ replyTo .readCycles s = .count s.cycles ∧
    applyEvent .readFault s = .next s ∧ replyTo .readFault s = .latch s.fault ∧
    applyEvent .resetCycles s = .next { s with cycles := 0 }

/-- A, X, Y and SP are changed only by the instructions the register table lists -/
def Obligations.OnlyTheirWritersChangeRegisters : Prop :=
  ∀ (i : Instr) (s t : State), exec i s = .next t →
    (i.mnemonic ∉ [.lda, .txa, .tya, .pla, .adc, .sbc, .and, .ora, .eor] → i.format ≠ .accumulator → t.A = s.A) ∧
    (i.mnemonic ∉ [.ldx, .tax, .tsx, .inx, .dex] → t.X = s.X) ∧
    (i.mnemonic ∉ [.ldy, .tay, .iny, .dey] → t.Y = s.Y) ∧
    (i.mnemonic ∉ [.pha, .php, .pla, .plp, .jsr, .rts, .brk, .rti, .txs] → t.SP = s.SP) ∧ t.fault = s.fault

/-- Each flag is changed only by the instructions its rule lists as writers -/
def Obligations.OnlyTheirWritersChangeFlags : Prop :=
  ∀ (i : Instr) (s t : State), exec i s = .next t →
    (i.mnemonic ∉ [.adc, .sbc, .cmp, .cpx, .cpy, .asl, .rol, .lsr, .ror, .clc, .sec, .plp, .rti] → t.C = s.C) ∧
    (i.mnemonic ∉ [.lda, .ldx, .ldy, .tax, .tay, .txa, .tya, .tsx, .pla, .adc, .sbc, .and, .ora, .eor, .inc, .inx,
      .iny, .dec, .dex, .dey, .asl, .lsr, .rol, .ror, .cmp, .cpx, .cpy, .bit, .plp, .rti] → t.Z = s.Z ∧ t.N = s.N) ∧
    (i.mnemonic ∉ [.sei, .cli, .brk, .plp, .rti] → t.I = s.I) ∧
    (i.mnemonic ∉ [.sed, .cld, .plp, .rti] → t.D = s.D) ∧
    (i.mnemonic ≠ .brk → t.B = s.B) ∧
    (i.mnemonic ∉ [.adc, .sbc, .bit, .clv, .plp, .rti] → t.V = s.V)

/-- Every instruction leaves every byte of memory as it was but the cells it stores to -/
def Obligations.OnlyStoredCellsChange : Prop :=
  ∀ (i : Instr) (s t : State), exec i s = .next t → ∀ a : Word, a ∉ storedCells i s → t.readByte a = s.readByte a

/-- Every instruction that does not transfer control advances PC by its length, with wrap -/
def Obligations.FallThroughAdvancesByLength : Prop :=
  ∀ (i : Instr) (s t : State), transfersControl i.mnemonic = false → exec i s = .next t →
    t.PC = s.PC + BitVec.ofNat 16 i.length

/-- D changes no result: ADC and SBC are binary whatever it holds -/
def Obligations.DecimalFlagHasNoEffect : Prop :=
  ∀ (i : Instr) (s : State) (d : Bool),
    (i.mnemonic ∉ [.cld, .sed, .plp, .rti, .php, .brk] →
      exec i { s with D := d } = mapNext (fun t => { t with D := d }) (exec i s)) ∧
    (i.mnemonic ∈ [.cld, .sed, .plp, .rti] → exec i { s with D := d } = exec i s)

/-- No instruction reads the stored B, and only BRK writes it -/
def Obligations.StoredBreakFlagIsUnobservable : Prop :=
  (∀ (i : Instr) (s : State) (b : Bool), i ≠ .brk →
    exec i { s with B := b } = mapNext (fun t => { t with B := b }) (exec i s)) ∧
  (∀ (s : State) (b : Bool), exec .brk { s with B := b } = exec .brk s ∧ ∃ t, exec .brk s = .next t ∧ t.B = true) ∧
  (∀ s : State, (powerUp s).B = false ∧ (warmReset s).B = false)

/-- I has no effect on execution beyond the byte PHP and BRK push -/
def Obligations.InterruptDisableMasksNothing : Prop :=
  ∀ (i : Instr) (s : State) (b : Bool),
    (i.mnemonic ∉ [.sei, .cli, .plp, .rti, .php, .brk] →
      exec i { s with I := b } = mapNext (fun t => { t with I := b }) (exec i s)) ∧
    (i.mnemonic ∈ [.sei, .cli, .plp, .rti] → exec i { s with I := b } = exec i s)

/-- No instruction reads the cycle counter: its value influences nothing but itself -/
def Obligations.CyclesInfluenceNothing : Prop :=
  ∀ (i : Instr) (s : State) (n : Nat),
    exec i { s with cycles := s.cycles + n } = mapNext (fun t => { t with cycles := t.cycles + n }) (exec i s)

/-- A step adds its base cost and the page-cross and branch penalties to cycles, and a faulting step nothing -/
def Obligations.CostOfAStep : Prop :=
  (∀ (i : Instr) (s t : State), exec i s = .next t →
    t.cycles = s.cycles + baseCost i.mnemonic i.format + pagePenalty i s + branchPenalty i s) ∧
  (∀ s t : State, s.readByte s.PC ∈ illegalOpcodes → step s = .next t → t.cycles = s.cycles) ∧
  (∀ s : State, (powerUp s).cycles = 0 ∧ (warmReset s).cycles = 0)

/-- A completed step adds at least 2 and at most 7 cycles -/
def Obligations.CompletedStepCostsTwoToSeven : Prop :=
  ∀ s t : State, Completes s t → s.cycles + 2 ≤ t.cycles ∧ t.cycles ≤ s.cycles + 7

/-- The zero-page modes give an address in page 0, the index added modulo 256, and never cross -/
def Obligations.ZeroPageModesStayInPageZero : Prop :=
  ∀ (b1 : Byte) (s : State),
    (placeOf (.zp b1) s = .mem (effAddr (.zp b1) s) ∧ (effAddr (.zp b1) s).toNat = b1.toNat ∧
      operandLength (.zp b1) = 2 ∧ crosses (.zp b1) s = false) ∧
    (placeOf (.zpX b1) s = .mem (effAddr (.zpX b1) s) ∧
      (effAddr (.zpX b1) s).toNat = (b1.toNat + s.X.toNat) % 256 ∧ operandLength (.zpX b1) = 2 ∧
      crosses (.zpX b1) s = false) ∧
    (placeOf (.zpY b1) s = .mem (effAddr (.zpY b1) s) ∧
      (effAddr (.zpY b1) s).toNat = (b1.toNat + s.Y.toNat) % 256 ∧ operandLength (.zpY b1) = 2 ∧
      crosses (.zpY b1) s = false)

/-- The absolute modes give the word plus the index modulo 65536 and cross when the high byte changes -/
def Obligations.AbsoluteModesWrapAndCompareHighBytes : Prop :=
  ∀ (w : Word) (s : State),
    (placeOf (.abs w) s = .mem w ∧ operandLength (.abs w) = 3 ∧ crosses (.abs w) s = false) ∧
    (placeOf (.absX w) s = .mem (effAddr (.absX w) s) ∧
      (effAddr (.absX w) s).toNat = (w.toNat + s.X.toNat) % 65536 ∧ operandLength (.absX w) = 3 ∧
      crosses (.absX w) s = decide (w.toNat / 256 ≠ (w.toNat + s.X.toNat) % 65536 / 256)) ∧
    (placeOf (.absY w) s = .mem (effAddr (.absY w) s) ∧
      (effAddr (.absY w) s).toNat = (w.toNat + s.Y.toNat) % 65536 ∧ operandLength (.absY w) = 3 ∧
      crosses (.absY w) s = decide (w.toNat / 256 ≠ (w.toNat + s.Y.toNat) % 65536 / 256)) ∧
    exec (.jmpAbs w) s = .next { s with PC := w, cycles := s.cycles + 3 } ∧
    (∀ t, exec (.jsr w) s = .next t → t.PC = w)

/-- Indirect,X takes both pointer bytes from page 0 at the indexed address, with wrap, and never crosses -/
def Obligations.IndirectXPointerStaysInPageZero : Prop :=
  ∀ (b1 : Byte) (s : State),
    let z := (b1.toNat + s.X.toNat) % 256
    placeOf (.indX b1) s = .mem (effAddr (.indX b1) s) ∧
    (effAddr (.indX b1) s).toNat =
      (s.readByte (BitVec.ofNat 16 ((z + 1) % 256))).toNat * 256 + (s.readByte (BitVec.ofNat 16 z)).toNat ∧
    operandLength (.indX b1) = 2 ∧ crosses (.indX b1) s = false

/-- Indirect,Y takes a pointer from page 0 with wrap, adds Y modulo 65536, and compares pointer with sum -/
def Obligations.IndirectYAddsYToThePointer : Prop :=
  ∀ (b1 : Byte) (s : State),
    let pointer :=
      (s.readByte (BitVec.ofNat 16 ((b1.toNat + 1) % 256))).toNat * 256 + (s.readByte (BitVec.ofNat 16 b1.toNat)).toNat
    placeOf (.indY b1) s = .mem (effAddr (.indY b1) s) ∧
    (effAddr (.indY b1) s).toNat = (pointer + s.Y.toNat) % 65536 ∧ operandLength (.indY b1) = 2 ∧
    crosses (.indY b1) s = decide (pointer / 256 ≠ (pointer + s.Y.toNat) % 65536 / 256)

/-- An 8-bit index crosses a page exactly when it carries out of the low byte -/
def Obligations.PageCrossIsACarryOutOfTheLowByte : Prop :=
  (∀ a b : Word, pageCross a b = decide (a.toNat / 256 ≠ b.toNat / 256)) ∧
  (∀ (a : Word) (index : Byte), pageCross a (a + index.zeroExtend 16) = decide (0xFF < a.toNat % 256 + index.toNat))

/-- MemWrite changes its one cell and nothing else, and the cell then reads as the byte written -/
def Obligations.ByteWriteChangesOneCell : Prop :=
  ∀ (s : State) (a : Word) (v : Byte),
    s.writeByte a v = { s with mem := (s.writeByte a v).mem } ∧ StoredOnly s (s.writeByte a v) a v

/-- Word reads and writes are two byte accesses, low byte first, with wrap, and a word written is read back (R53, R54). The
wrap of a write is the spec's decision D15, and the read-back at 0xFFFF is a sentence R54 marks as derived from R53 and R54
with it. The premise of a canonical memory is the model's form (notes/assumptions/3.md). -/
def Obligations.WordAccessIsTwoBytesLittleEndian : Prop :=
  ∀ (s : State) (a w : Word),
    (s.readWord a).toNat = (s.readByte (a + 1)).toNat * 256 + (s.readByte a).toNat ∧
    s.writeWord a w = { s with mem := (s.writeWord a w).mem } ∧
    (∀ b, b ≠ a → b ≠ a + 1 → (s.writeWord a w).readByte b = s.readByte b) ∧
    (s.mem.wf = true → ((s.writeWord a w).readByte a).toNat = w.toNat % 256 ∧
      ((s.writeWord a w).readByte (a + 1)).toNat = w.toNat / 256 ∧ (s.writeWord a w).readWord a = w)

/-- Every stack access is at 0x0100 + SP; a push writes there and lowers SP, a pull raises SP and reads there -/
def Obligations.PushAndPopStayInTheStackPage : Prop :=
  ∀ (s : State) (v : Byte),
    (stackAddr s.SP).toNat = 0x0100 + s.SP.toNat ∧
    s.push8 v = { s with SP := (s.push8 v).SP, mem := (s.push8 v).mem } ∧
    (s.push8 v).SP.toNat = (s.SP.toNat + 255) % 256 ∧ StoredOnly s (s.push8 v) (stackAddr s.SP) v ∧
    s.drop8 = { s with SP := s.drop8.SP } ∧ s.drop8.SP.toNat = (s.SP.toNat + 1) % 256 ∧
    s.top8 = s.readByte (stackAddr s.drop8.SP)

/-- Push then pop returns the value and SP at every SP; 257 pushes from 0xFF wrap within the stack page. The spec derives
both from its rules R63 to R66 (R67). -/
def Obligations.StackRoundTripsAndWraps : Prop :=
  (∀ (s : State) (v : Byte) (w : Word), s.mem.wf = true →
    (s.push8 v).top8 = v ∧ (s.push8 v).drop8.SP = s.SP ∧ (s.push16 w).top16 = w ∧ (s.push16 w).drop16.SP = s.SP) ∧
  (∀ (s : State) (vs : List Byte) (v : Byte), s.mem.wf = true → s.SP = 0xFF → vs.length = 256 →
    let t := (vs ++ [v]).foldl State.push8 s
    t.SP = 0xFE ∧ t.readByte 0x01FF = v ∧
      ∀ a : Word, a.toNat < 0x0100 ∨ 0x01FF < a.toNat → t.readByte a = s.readByte a)

/-- PackP has the layout N V 1 1 D I Z C, UnpackP sets six flags, and each undoes the other (R37, R38). The last two clauses
are sentences the spec marks as derived: PackP after UnpackP(b) in R38, from R37 and R38; UnpackP(PackP) in section 3.8 of
95_test_vectors.md. -/
def Obligations.StatusByteConversions : Prop :=
  ∀ (s : State) (b : Byte),
    IsStatusByte (packP s) s ∧ unpackP s b = withPulledFlags s b ∧ packP (unpackP s b) = b ||| 0x30 ∧
    unpackP s (packP s) = s

/-- The adder gives the sum modulo 256, the carry out of bit 7, and overflow exactly outside -128 to 127 -/
def Obligations.AdderCarryAndSignedOverflow : Prop :=
  ∀ (a m : Byte) (c : Bool),
    let r := (addWithCarry a m c).result
    r.toNat = (a.toNat + m.toNat + c.toNat) % 256 ∧
    (addWithCarry a m c).carry = decide (0xFF < a.toNat + m.toNat + c.toNat) ∧
    (addWithCarry a m c).overflow = decide ((a ^^^ r) &&& (m ^^^ r) &&& 0x80 ≠ 0) ∧
    (addWithCarry a m c).overflow = decide (OutOfRange (a.toInt + m.toInt + carryInt c))

/-- LDA, LDX and LDY put the operand byte into their register and set Z and N from it, in every form -/
def Obligations.LoadsFillTheirRegister : Prop :=
  ReadsAs ldaForms (fun v s => withZN { s with A := v } v) ∧
  ReadsAs ldxForms (fun v s => withZN { s with X := v } v) ∧
  ReadsAs ldyForms (fun v s => withZN { s with Y := v } v)

/-- STA, STX and STY store their register at the effective address and change nothing else, in every form -/
def Obligations.StoresWriteTheirRegister : Prop :=
  StoresAs staForms (fun s => s.A) ∧ StoresAs stxForms (fun s => s.X) ∧ StoresAs styForms (fun s => s.Y)

/-- The six register transfers copy one byte; all but TXS set Z and N from it -/
def Obligations.TransfersMoveAByte : Prop :=
  (encode .tax = [0xAA] ∧ encode .tay = [0xA8] ∧ encode .txa = [0x8A] ∧ encode .tya = [0x98] ∧ encode .tsx = [0xBA] ∧
    encode .txs = [0x9A]) ∧
  ∀ s : State,
    exec .tax s = .next (withZN { s with X := s.A, PC := s.PC + 1, cycles := s.cycles + 2 } s.A) ∧
    exec .tay s = .next (withZN { s with Y := s.A, PC := s.PC + 1, cycles := s.cycles + 2 } s.A) ∧
    exec .txa s = .next (withZN { s with A := s.X, PC := s.PC + 1, cycles := s.cycles + 2 } s.X) ∧
    exec .tya s = .next (withZN { s with A := s.Y, PC := s.PC + 1, cycles := s.cycles + 2 } s.Y) ∧
    exec .tsx s = .next (withZN { s with X := s.SP, PC := s.PC + 1, cycles := s.cycles + 2 } s.SP) ∧
    exec .txs s = .next { s with SP := s.X, PC := s.PC + 1, cycles := s.cycles + 2 }

/-- ADC adds operand and carry to A in binary, with C the carry, V the signed overflow, Z and N of the result -/
def Obligations.AdcAddsWithCarry : Prop :=
  ReadsAs adcForms fun m s =>
    let t := s.A.toNat + m.toNat + s.C.toNat
    withZN { s with A := BitVec.ofNat 8 t, C := decide (0xFF < t),
                    V := decide (OutOfRange (s.A.toInt + m.toInt + carryInt s.C)) } (BitVec.ofNat 8 t)

/-- SBC subtracts operand and borrow from A in binary, with C for no borrow, V the signed overflow, Z and N -/
def Obligations.SbcSubtractsWithBorrow : Prop :=
  ReadsAs sbcForms fun m s =>
    let borrow : Int := 1 - carryInt s.C
    let r : Byte := BitVec.ofInt 8 (s.A.toNat - m.toNat - borrow)
    withZN { s with A := r, C := decide (0 ≤ (s.A.toNat : Int) - m.toNat - borrow),
                    V := decide (OutOfRange (s.A.toInt - m.toInt - borrow)) } r

/-- CMP, CPX and CPY set C for register at least operand, Z for equal, N from the difference, and nothing else -/
def Obligations.ComparesSetCarryZeroNegative : Prop :=
  ReadsAs cmpForms (fun m s => withCompare s s.A m) ∧ ReadsAs cpxForms (fun m s => withCompare s s.X m) ∧
  ReadsAs cpyForms (fun m s => withCompare s s.Y m)

/-- INC and DEC change one memory byte by one with wrap and set Z and N from it, in every form -/
def Obligations.IncDecModifyOneMemoryByte : Prop :=
  ModifiesAs incForms (fun b _ => b + 1) (fun _ new s => withZN s new) ∧
  ModifiesAs decForms (fun b _ => b - 1) (fun _ new s => withZN s new)

/-- INX, INY, DEX and DEY move X or Y by one with wrap and set Z and N from it -/
def Obligations.IndexIncrementsWrap : Prop :=
  (encode .inx = [0xE8] ∧ encode .iny = [0xC8] ∧ encode .dex = [0xCA] ∧ encode .dey = [0x88]) ∧
  ∀ s : State,
    exec .inx s = .next (withZN { s with X := s.X + 1, PC := s.PC + 1, cycles := s.cycles + 2 } (s.X + 1)) ∧
    exec .iny s = .next (withZN { s with Y := s.Y + 1, PC := s.PC + 1, cycles := s.cycles + 2 } (s.Y + 1)) ∧
    exec .dex s = .next (withZN { s with X := s.X - 1, PC := s.PC + 1, cycles := s.cycles + 2 } (s.X - 1)) ∧
    exec .dey s = .next (withZN { s with Y := s.Y - 1, PC := s.PC + 1, cycles := s.cycles + 2 } (s.Y - 1))

/-- AND, ORA and EOR combine A with the operand bit by bit and set Z and N from the result, in every form -/
def Obligations.LogicCombinesWithA : Prop :=
  ReadsAs andForms (fun m s => withZN { s with A := s.A &&& m } (s.A &&& m)) ∧
  ReadsAs oraForms (fun m s => withZN { s with A := s.A ||| m } (s.A ||| m)) ∧
  ReadsAs eorForms (fun m s => withZN { s with A := s.A ^^^ m } (s.A ^^^ m))

/-- BIT sets Z from A and operand, N and V from the operand's bits 7 and 6, and nothing else -/
def Obligations.BitTestsWithoutKeepingAResult : Prop :=
  ReadsAs bitForms fun m s =>
    { s with Z := decide (s.A &&& m = 0x00), N := m.getLsbD 7, V := m.getLsbD 6 }

/-- ASL and LSR shift one place, the bit that leaves goes to C, the vacated bit is 0, in every form -/
def Obligations.ShiftsMoveOneBitThroughCarry : Prop :=
  ModifiesAs aslForms (fun b _ => b <<< 1) (fun old new s => withZN { s with C := old.getLsbD 7 } new) ∧
  ModifiesAs lsrForms (fun b _ => b >>> 1) (fun old new s => withZN { s with C := old.getLsbD 0 } new)

/-- ROL and ROR rotate the byte and C by one place as nine bits, in every form -/
def Obligations.RotatesMoveNineBits : Prop :=
  ModifiesAs rolForms (fun b c => (b <<< 1) ||| (if c then 0x01 else 0x00))
    (fun old new s => withZN { s with C := old.getLsbD 7 } new) ∧
  ModifiesAs rorForms (fun b c => (b >>> 1) ||| (if c then 0x80 else 0x00))
    (fun old new s => withZN { s with C := old.getLsbD 0 } new)

/-- The eight branches go to PC + 2 plus the signed offset when their flag condition holds, else to PC + 2 -/
def Obligations.BranchesReadOneFlag : Prop :=
  ∀ (b1 : Byte), ∀ f ∈ branchForms b1, encode f.2.1 = [f.1, b1] ∧ ∀ s : State,
    let next := s.PC + 2
    let target := next + b1.signExtend 16
    exec f.2.1 s = .next (if f.2.2 s = true
      then { s with PC := target
                    cycles := s.cycles + 2 + (1 + if target.toNat / 256 = next.toNat / 256 then 0 else 1) }
      else { s with PC := next, cycles := s.cycles + 2 })

/-- JMP goes to its word, or to the word at its pointer, whose high byte wraps within the pointer's page -/
def Obligations.JumpIndirectKeepsThePageDefect : Prop :=
  ∀ (w : Word) (s : State),
    (encode (.jmpAbs w) = [0x4C, lo8 w, hi8 w] ∧ exec (.jmpAbs w) s = .next { s with PC := w, cycles := s.cycles + 3 }) ∧
    encode (.jmpInd w) = [0x6C, lo8 w, hi8 w] ∧ ∃ t, exec (.jmpInd w) s = .next t ∧
      t = { s with PC := t.PC, cycles := s.cycles + 5 } ∧
      t.PC.toNat = (s.readByte (if w.toNat % 256 = 0xFF then w &&& 0xFF00 else w + 1)).toNat * 256 +
        (s.readByte w).toNat

/-- JSR pushes the address of its own last byte, high byte first, and goes to its operand -/
def Obligations.JsrPushesItsLastByteAddress : Prop :=
  ∀ (w : Word) (s : State), encode (.jsr w) = [0x20, lo8 w, hi8 w] ∧ ∃ t, exec (.jsr w) s = .next t ∧
    t = { s with SP := s.SP - 2, PC := w, cycles := s.cycles + 6, mem := t.mem } ∧
    (∀ a, a ≠ stackAddr s.SP → a ≠ stackAddr (s.SP - 1) → t.readByte a = s.readByte a) ∧
    (s.mem.wf = true → t.readByte (stackAddr s.SP) = hi8 (s.PC + 2) ∧
      t.readByte (stackAddr (s.SP - 1)) = lo8 (s.PC + 2) ∧ t.mem.wf = true)

/-- RTS pulls a word, low byte first, and goes to it plus 1 -/
def Obligations.RtsReturnsPastThePulledWord : Prop :=
  encode .rts = [0x60] ∧ ∀ s : State, exec .rts s =
    .next { s with SP := s.SP + 2, cycles := s.cycles + 6
                   PC := mkWord (s.readByte (stackAddr (s.SP + 2))) (s.readByte (stackAddr (s.SP + 1))) + 1 }

/-- After JSR, and a body that keeps SP and the two pushed cells, RTS comes back to the instruction after the JSR -/
def Obligations.JsrAndRtsAreBalanced : Prop :=
  ∀ (w : Word) (s t u v : State), s.mem.wf = true → exec (.jsr w) s = .next t → u.SP = t.SP →
    u.readByte (stackAddr s.SP) = t.readByte (stackAddr s.SP) →
    u.readByte (stackAddr (s.SP - 1)) = t.readByte (stackAddr (s.SP - 1)) → exec .rts u = .next v →
    v.SP = s.SP ∧ v.PC = s.PC + 3

/-- PHA pushes A and PHP the status byte with bits 5 and 4 set; no flag and no other cell changes -/
def Obligations.PushesStoreOneByte : Prop :=
  (encode .pha = [0x48] ∧ encode .php = [0x08]) ∧
  ∀ s : State,
    (∃ t, exec .pha s = .next t ∧
      t = { s with SP := s.SP - 1, PC := s.PC + 1, cycles := s.cycles + 3, mem := t.mem } ∧
      StoredOnly s t (stackAddr s.SP) s.A) ∧
    (∃ t p, exec .php s = .next t ∧ IsStatusByte p s ∧
      t = { s with SP := s.SP - 1, PC := s.PC + 1, cycles := s.cycles + 3, mem := t.mem } ∧
      StoredOnly s t (stackAddr s.SP) p)

/-- PLA pulls A with Z and N; PLP pulls six flags and leaves B -/
def Obligations.PullsReadOneByte : Prop :=
  (encode .pla = [0x68] ∧ encode .plp = [0x28]) ∧
  ∀ s : State,
    let p := s.readByte (stackAddr (s.SP + 1))
    exec .pla s = .next (withZN { s with A := p, SP := s.SP + 1, PC := s.PC + 1, cycles := s.cycles + 4 } p) ∧
    exec .plp s = .next (withPulledFlags { s with SP := s.SP + 1, PC := s.PC + 1, cycles := s.cycles + 4 } p)

/-- The seven flag instructions write one flag to a constant; NOP writes nothing -/
def Obligations.FlagInstructionsWriteOneFlag : Prop :=
  (encode .clc = [0x18] ∧ encode .sec = [0x38] ∧ encode .cli = [0x58] ∧ encode .sei = [0x78] ∧ encode .cld = [0xD8] ∧
    encode .sed = [0xF8] ∧ encode .clv = [0xB8] ∧ encode .nop = [0xEA]) ∧
  ∀ s : State,
    exec .clc s = .next { s with C := false, PC := s.PC + 1, cycles := s.cycles + 2 } ∧
    exec .sec s = .next { s with C := true, PC := s.PC + 1, cycles := s.cycles + 2 } ∧
    exec .cli s = .next { s with I := false, PC := s.PC + 1, cycles := s.cycles + 2 } ∧
    exec .sei s = .next { s with I := true, PC := s.PC + 1, cycles := s.cycles + 2 } ∧
    exec .cld s = .next { s with D := false, PC := s.PC + 1, cycles := s.cycles + 2 } ∧
    exec .sed s = .next { s with D := true, PC := s.PC + 1, cycles := s.cycles + 2 } ∧
    exec .clv s = .next { s with V := false, PC := s.PC + 1, cycles := s.cycles + 2 } ∧
    exec .nop s = .next { s with PC := s.PC + 1, cycles := s.cycles + 2 }

/-- BRK pushes PC + 2 and the status byte, sets I and B, and goes through the vector at 0xFFFE -/
def Obligations.BrkTakesTheTrap : Prop :=
  encode .brk = [0x00] ∧ ∀ s : State, ∃ t p, exec .brk s = .next t ∧ IsStatusByte p s ∧
    t = { s with SP := s.SP - 3, I := true, B := true, cycles := s.cycles + 7, mem := t.mem
                 PC := mkWord (s.readByte 0xFFFF) (s.readByte 0xFFFE) } ∧
    (∀ a, a ≠ stackAddr s.SP → a ≠ stackAddr (s.SP - 1) → a ≠ stackAddr (s.SP - 2) →
      t.readByte a = s.readByte a) ∧
    (s.mem.wf = true → t.readByte (stackAddr s.SP) = hi8 (s.PC + 2) ∧
      t.readByte (stackAddr (s.SP - 1)) = lo8 (s.PC + 2) ∧ t.readByte (stackAddr (s.SP - 2)) = p ∧ t.mem.wf = true)

/-- RTI pulls six flags and then PC, low byte first, and adds nothing -/
def Obligations.RtiReturnsFromTheTrap : Prop :=
  encode .rti = [0x40] ∧ ∀ s : State, exec .rti s = .next (withPulledFlags
    { s with SP := s.SP + 3, cycles := s.cycles + 6
             PC := mkWord (s.readByte (stackAddr (s.SP + 3))) (s.readByte (stackAddr (s.SP + 2))) }
    (s.readByte (stackAddr (s.SP + 1))))

/-- After BRK, and a handler that keeps SP and the three pushed cells, RTI restores PC + 2, SP and the six flags -/
def Obligations.BrkAndRtiAreBalanced : Prop :=
  ∀ s t u v : State, s.mem.wf = true → exec .brk s = .next t → u.SP = t.SP →
    (∀ a, a = stackAddr s.SP ∨ a = stackAddr (s.SP - 1) ∨ a = stackAddr (s.SP - 2) → u.readByte a = t.readByte a) →
    exec .rti u = .next v →
    v.PC = s.PC + 2 ∧ v.SP = s.SP ∧ v.N = s.N ∧ v.V = s.V ∧ v.D = s.D ∧ v.I = s.I ∧ v.Z = s.Z ∧ v.C = s.C ∧ v.B = u.B
end

