-- ==== Sys2Proof/Laws/Decode.lean ====
section
/-! SUPPORT. What the decoder answers, by the opcode byte's entry in the map. -/

namespace Sys2Proof

@[simp] theorem decode_nil : decode [] = .error .noBytes := rfl

theorem decode_illegal {op : Byte} (h : opcodeMap op = none) (rest : List Byte) :
    decode (op :: rest) = .error (.illegalOpcode op) := by
  simp [decode, h]

theorem decode_noOperand {op : Byte} {i : Instr} (h : opcodeMap op = some (.noOperand i)) (rest : List Byte) :
    decode (op :: rest) = .ok (i, rest) := by
  simp [decode, h]

theorem decode_oneByte {op : Byte} {mk : Byte → Instr} (h : opcodeMap op = some (.oneByte mk)) (b1 : Byte)
    (rest : List Byte) : decode (op :: b1 :: rest) = .ok (mk b1, rest) := by
  simp [decode, h]

theorem decode_twoBytes {op : Byte} {mk : Word → Instr} (h : opcodeMap op = some (.twoBytes mk)) (b1 b2 : Byte)
    (rest : List Byte) : decode (op :: b1 :: b2 :: rest) = .ok (mk (mkWord b2 b1), rest) := by
  simp [decode, h]

/-- Every way a decoding can succeed. -/
theorem decode_ok_cases {bytes rest : List Byte} {i : Instr} (h : decode bytes = .ok (i, rest)) :
    (∃ op, opcodeMap op = some (.noOperand i) ∧ bytes = op :: rest) ∨
    (∃ op mk b1, opcodeMap op = some (.oneByte mk) ∧ bytes = op :: b1 :: rest ∧ i = mk b1) ∨
    (∃ op mk b1 b2, opcodeMap op = some (.twoBytes mk) ∧ bytes = op :: b1 :: b2 :: rest ∧ i = mk (mkWord b2 b1)) := by
  unfold decode at h
  split at h
  · cases h
  · rename_i op tail
    split at h
    · cases h
    · rename_i j _ heq
      cases h
      exact .inl ⟨op, heq, rfl⟩
    · rename_i mk b1 _ heq
      cases h
      exact .inr (.inl ⟨op, mk, b1, heq, rfl, rfl⟩)
    · cases h
    · rename_i mk b1 b2 _ heq
      cases h
      exact .inr (.inr ⟨op, mk, b1, b2, heq, rfl, rfl⟩)
    · cases h

/-- The bytes of R91 are exactly those the opcode map does not list. -/
theorem mem_illegalOpcodes_iff (op : Byte) : op ∈ illegalOpcodes ↔ opcodeMap op = none := by
  have h : ∀ b : Byte, b ∈ illegalOpcodes ↔ (opcodeMap b).isNone = true := by decide
  rw [h, Option.isNone_iff_eq_none]

end Sys2Proof
end

