-- ==== Sys2Proof/Laws/Memory.lean ====
section
/-! SUPPORT. The laws of the memory array: a read after a write, the frame of a write, the canonical form kept by every
operation, and equality of canonical memories from equality of their reads. -/

namespace Sys2Proof.Machine

@[simp] theorem Memory.read_nil (a : Nat) : Memory.read [] a = 0#8 := rfl

@[simp] theorem Memory.wf_nil : Memory.wf [] = true := rfl

@[simp] theorem Memory.read_zeroed (a : Nat) : Memory.zeroed.read a = 0#8 := rfl

theorem Memory.wf_zeroed : Memory.zeroed.wf = true := rfl

theorem Memory.wfFrom_cons {lo a : Nat} {v : Byte} {m : Memory} :
    Memory.wfFrom lo ((a, v) :: m) = true ↔ lo ≤ a ∧ a < 65536 ∧ v ≠ 0#8 ∧ Memory.wfFrom (a + 1) m = true := by
  simp [Memory.wfFrom, and_assoc]

theorem Memory.wfFrom_mono {lo lo' : Nat} {m : Memory} (h : Memory.wfFrom lo m = true) (hl : lo' ≤ lo) :
    Memory.wfFrom lo' m = true := by
  cases m with
  | nil => rfl
  | cons c m =>
    obtain ⟨h1, h2⟩ := Memory.wfFrom_cons.1 h
    exact Memory.wfFrom_cons.2 ⟨le_trans hl h1, h2⟩

/-- A canonical memory from `lo` on lists nothing below `lo`. -/
theorem Memory.read_below {lo a : Nat} {m : Memory} (h : Memory.wfFrom lo m = true) (ha : a < lo) : m.read a = 0#8 := by
  induction m generalizing lo with
  | nil => rfl
  | cons c m ih =>
    obtain ⟨k, v⟩ := c
    obtain ⟨h1, -, -, h4⟩ := Memory.wfFrom_cons.1 h
    have hk : k ≠ a := by omega
    simpa [Memory.read, hk] using ih h4 (by omega)

/-- A write changes no other cell (R52); no condition on the memory is needed. -/
theorem Memory.read_write_other {a b : Nat} (m : Memory) (v : Byte) (h : b ≠ a) : (m.write a v).read b = m.read b := by
  induction m with
  | nil => by_cases hv : v = 0#8 <;> simp [Memory.write, Memory.read, hv, Ne.symm h]
  | cons c m ih =>
    obtain ⟨k, w⟩ := c
    simp only [Memory.write]
    split
    · split <;> simp [Memory.read, Ne.symm h]
    · split
      · rename_i hak
        subst hak
        split <;> simp [Memory.read, Ne.symm h]
      · simp [Memory.read, ih]

/-- After a write the cell holds the byte written (R52). -/
theorem Memory.read_write_same_from {lo a : Nat} {m : Memory} (h : Memory.wfFrom lo m = true) (v : Byte) :
    (m.write a v).read a = v := by
  induction m generalizing lo with
  | nil => by_cases hv : v = 0#8 <;> simp [Memory.write, Memory.read, hv]
  | cons c m ih =>
    obtain ⟨k, w⟩ := c
    obtain ⟨-, -, -, h4⟩ := Memory.wfFrom_cons.1 h
    simp only [Memory.write]
    split
    · rename_i hak
      split
      · rename_i hv
        have hk : k ≠ a := by omega
        simp [Memory.read, hk, hv, Memory.read_below h4 (show a < k + 1 by omega)]
      · simp [Memory.read]
    · split
      · rename_i hak
        subst hak
        split
        · rename_i hv
          simp [hv, Memory.read_below h4 (Nat.lt_succ_self a)]
        · simp [Memory.read]
      · rename_i hak
        simpa [Memory.read, Ne.symm hak] using ih h4

theorem Memory.read_write_same {m : Memory} (h : m.wf = true) (a : Nat) (v : Byte) : (m.write a v).read a = v :=
  Memory.read_write_same_from h v

/-- What a cell reads as after a write to a canonical memory. -/
theorem Memory.read_write {m : Memory} (h : m.wf = true) (a b : Nat) (v : Byte) :
    (m.write a v).read b = if b = a then v else m.read b := by
  split
  · rename_i hb
    exact hb ▸ Memory.read_write_same h a v
  · rename_i hb
    exact Memory.read_write_other m v hb

theorem Memory.wfFrom_write {lo a : Nat} {m : Memory} (h : Memory.wfFrom lo m = true) (hl : lo ≤ a) (ha : a < 65536)
    (v : Byte) : Memory.wfFrom lo (m.write a v) = true := by
  induction m generalizing lo with
  | nil => by_cases hv : v = 0#8 <;> simp [Memory.write, Memory.wfFrom, hv, hl, ha]
  | cons c m ih =>
    obtain ⟨k, w⟩ := c
    obtain ⟨h1, h2, h3, h4⟩ := Memory.wfFrom_cons.1 h
    simp only [Memory.write]
    split
    · rename_i hak
      split
      · exact h
      · rename_i hv
        exact Memory.wfFrom_cons.2 ⟨hl, ha, hv, Memory.wfFrom_cons.2 ⟨hak, h2, h3, h4⟩⟩
    · split
      · rename_i hak
        split
        · exact Memory.wfFrom_mono h4 (by omega)
        · rename_i hv
          exact Memory.wfFrom_cons.2 ⟨hl, ha, hv, hak ▸ h4⟩
      · exact Memory.wfFrom_cons.2 ⟨h1, h2, h3, ih h4 (by omega)⟩

/-- Every write at a 16-bit address keeps the canonical form. -/
theorem Memory.wf_write {m : Memory} (h : m.wf = true) (a : Word) (v : Byte) : (m.write a.toNat v).wf = true :=
  Memory.wfFrom_write h (Nat.zero_le _) a.isLt v

/-- Canonical memories that read the same everywhere are the same list. -/
theorem Memory.ext_from {lo : Nat} {m m' : Memory} (h : Memory.wfFrom lo m = true) (h' : Memory.wfFrom lo m' = true)
    (hr : ∀ a, m.read a = m'.read a) : m = m' := by
  induction m generalizing lo m' with
  | nil =>
    cases m' with
    | nil => rfl
    | cons c' m' =>
      obtain ⟨k', v'⟩ := c'
      obtain ⟨-, -, h3, -⟩ := Memory.wfFrom_cons.1 h'
      exact absurd (by simpa [Memory.read] using (hr k').symm) h3
  | cons c m ih =>
    obtain ⟨k, v⟩ := c
    obtain ⟨h1, h2, h3, h4⟩ := Memory.wfFrom_cons.1 h
    cases m' with
    | nil => exact absurd (by simpa [Memory.read] using hr k) h3
    | cons c' m' =>
      obtain ⟨k', v'⟩ := c'
      obtain ⟨h1', h2', h3', h4'⟩ := Memory.wfFrom_cons.1 h'
      have hk : k = k' := by
        rcases Nat.lt_trichotomy k k' with hlt | heq | hgt
        · have := hr k
          rw [Memory.read_below (Memory.wfFrom_cons.2 ⟨le_refl k', h2', h3', h4'⟩) hlt] at this
          exact absurd (by simpa [Memory.read] using this) h3
        · exact heq
        · have := hr k'
          rw [Memory.read_below (Memory.wfFrom_cons.2 ⟨le_refl k, h2, h3, h4⟩) hgt] at this
          exact absurd (by simpa [Memory.read] using this.symm) h3'
      subst hk
      have hv : v = v' := by simpa [Memory.read] using hr k
      subst hv
      have hm : m = m' := ih h4 h4' fun a => by
        by_cases ha : k = a
        · subst ha
          rw [Memory.read_below h4 (Nat.lt_succ_self k), Memory.read_below h4' (Nat.lt_succ_self k)]
        · simpa [Memory.read, ha] using hr a
      rw [hm]

theorem Memory.ext_read {m m' : Memory} (h : m.wf = true) (h' : m'.wf = true) (hr : ∀ a, m.read a = m'.read a) :
    m = m' :=
  Memory.ext_from h h' hr

end Sys2Proof.Machine
end

