-- ==== Sys2Proof/Laws/State.lean ====
section
/-! SUPPORT. One lemma per field per update of the state, each true by `rfl`, so that no proof unfolds a record update. -/

namespace Sys2Proof.Machine

-- setA
@[simp] theorem State.setA_A (s : State) (v : Byte) : (s.setA v).A = v := rfl
@[simp] theorem State.setA_X (s : State) (v : Byte) : (s.setA v).X = s.X := rfl
@[simp] theorem State.setA_Y (s : State) (v : Byte) : (s.setA v).Y = s.Y := rfl
@[simp] theorem State.setA_SP (s : State) (v : Byte) : (s.setA v).SP = s.SP := rfl
@[simp] theorem State.setA_PC (s : State) (v : Byte) : (s.setA v).PC = s.PC := rfl
@[simp] theorem State.setA_C (s : State) (v : Byte) : (s.setA v).C = s.C := rfl
@[simp] theorem State.setA_Z (s : State) (v : Byte) : (s.setA v).Z = s.Z := rfl
@[simp] theorem State.setA_I (s : State) (v : Byte) : (s.setA v).I = s.I := rfl
@[simp] theorem State.setA_D (s : State) (v : Byte) : (s.setA v).D = s.D := rfl
@[simp] theorem State.setA_B (s : State) (v : Byte) : (s.setA v).B = s.B := rfl
@[simp] theorem State.setA_V (s : State) (v : Byte) : (s.setA v).V = s.V := rfl
@[simp] theorem State.setA_N (s : State) (v : Byte) : (s.setA v).N = s.N := rfl
@[simp] theorem State.setA_cycles (s : State) (v : Byte) : (s.setA v).cycles = s.cycles := rfl
@[simp] theorem State.setA_mem (s : State) (v : Byte) : (s.setA v).mem = s.mem := rfl
@[simp] theorem State.setA_fault (s : State) (v : Byte) : (s.setA v).fault = s.fault := rfl

-- setX
@[simp] theorem State.setX_A (s : State) (v : Byte) : (s.setX v).A = s.A := rfl
@[simp] theorem State.setX_X (s : State) (v : Byte) : (s.setX v).X = v := rfl
@[simp] theorem State.setX_Y (s : State) (v : Byte) : (s.setX v).Y = s.Y := rfl
@[simp] theorem State.setX_SP (s : State) (v : Byte) : (s.setX v).SP = s.SP := rfl
@[simp] theorem State.setX_PC (s : State) (v : Byte) : (s.setX v).PC = s.PC := rfl
@[simp] theorem State.setX_C (s : State) (v : Byte) : (s.setX v).C = s.C := rfl
@[simp] theorem State.setX_Z (s : State) (v : Byte) : (s.setX v).Z = s.Z := rfl
@[simp] theorem State.setX_I (s : State) (v : Byte) : (s.setX v).I = s.I := rfl
@[simp] theorem State.setX_D (s : State) (v : Byte) : (s.setX v).D = s.D := rfl
@[simp] theorem State.setX_B (s : State) (v : Byte) : (s.setX v).B = s.B := rfl
@[simp] theorem State.setX_V (s : State) (v : Byte) : (s.setX v).V = s.V := rfl
@[simp] theorem State.setX_N (s : State) (v : Byte) : (s.setX v).N = s.N := rfl
@[simp] theorem State.setX_cycles (s : State) (v : Byte) : (s.setX v).cycles = s.cycles := rfl
@[simp] theorem State.setX_mem (s : State) (v : Byte) : (s.setX v).mem = s.mem := rfl
@[simp] theorem State.setX_fault (s : State) (v : Byte) : (s.setX v).fault = s.fault := rfl

-- setY
@[simp] theorem State.setY_A (s : State) (v : Byte) : (s.setY v).A = s.A := rfl
@[simp] theorem State.setY_X (s : State) (v : Byte) : (s.setY v).X = s.X := rfl
@[simp] theorem State.setY_Y (s : State) (v : Byte) : (s.setY v).Y = v := rfl
@[simp] theorem State.setY_SP (s : State) (v : Byte) : (s.setY v).SP = s.SP := rfl
@[simp] theorem State.setY_PC (s : State) (v : Byte) : (s.setY v).PC = s.PC := rfl
@[simp] theorem State.setY_C (s : State) (v : Byte) : (s.setY v).C = s.C := rfl
@[simp] theorem State.setY_Z (s : State) (v : Byte) : (s.setY v).Z = s.Z := rfl
@[simp] theorem State.setY_I (s : State) (v : Byte) : (s.setY v).I = s.I := rfl
@[simp] theorem State.setY_D (s : State) (v : Byte) : (s.setY v).D = s.D := rfl
@[simp] theorem State.setY_B (s : State) (v : Byte) : (s.setY v).B = s.B := rfl
@[simp] theorem State.setY_V (s : State) (v : Byte) : (s.setY v).V = s.V := rfl
@[simp] theorem State.setY_N (s : State) (v : Byte) : (s.setY v).N = s.N := rfl
@[simp] theorem State.setY_cycles (s : State) (v : Byte) : (s.setY v).cycles = s.cycles := rfl
@[simp] theorem State.setY_mem (s : State) (v : Byte) : (s.setY v).mem = s.mem := rfl
@[simp] theorem State.setY_fault (s : State) (v : Byte) : (s.setY v).fault = s.fault := rfl

-- setSP
@[simp] theorem State.setSP_A (s : State) (v : Byte) : (s.setSP v).A = s.A := rfl
@[simp] theorem State.setSP_X (s : State) (v : Byte) : (s.setSP v).X = s.X := rfl
@[simp] theorem State.setSP_Y (s : State) (v : Byte) : (s.setSP v).Y = s.Y := rfl
@[simp] theorem State.setSP_SP (s : State) (v : Byte) : (s.setSP v).SP = v := rfl
@[simp] theorem State.setSP_PC (s : State) (v : Byte) : (s.setSP v).PC = s.PC := rfl
@[simp] theorem State.setSP_C (s : State) (v : Byte) : (s.setSP v).C = s.C := rfl
@[simp] theorem State.setSP_Z (s : State) (v : Byte) : (s.setSP v).Z = s.Z := rfl
@[simp] theorem State.setSP_I (s : State) (v : Byte) : (s.setSP v).I = s.I := rfl
@[simp] theorem State.setSP_D (s : State) (v : Byte) : (s.setSP v).D = s.D := rfl
@[simp] theorem State.setSP_B (s : State) (v : Byte) : (s.setSP v).B = s.B := rfl
@[simp] theorem State.setSP_V (s : State) (v : Byte) : (s.setSP v).V = s.V := rfl
@[simp] theorem State.setSP_N (s : State) (v : Byte) : (s.setSP v).N = s.N := rfl
@[simp] theorem State.setSP_cycles (s : State) (v : Byte) : (s.setSP v).cycles = s.cycles := rfl
@[simp] theorem State.setSP_mem (s : State) (v : Byte) : (s.setSP v).mem = s.mem := rfl
@[simp] theorem State.setSP_fault (s : State) (v : Byte) : (s.setSP v).fault = s.fault := rfl

-- setPC
@[simp] theorem State.setPC_A (s : State) (v : Word) : (s.setPC v).A = s.A := rfl
@[simp] theorem State.setPC_X (s : State) (v : Word) : (s.setPC v).X = s.X := rfl
@[simp] theorem State.setPC_Y (s : State) (v : Word) : (s.setPC v).Y = s.Y := rfl
@[simp] theorem State.setPC_SP (s : State) (v : Word) : (s.setPC v).SP = s.SP := rfl
@[simp] theorem State.setPC_PC (s : State) (v : Word) : (s.setPC v).PC = v := rfl
@[simp] theorem State.setPC_C (s : State) (v : Word) : (s.setPC v).C = s.C := rfl
@[simp] theorem State.setPC_Z (s : State) (v : Word) : (s.setPC v).Z = s.Z := rfl
@[simp] theorem State.setPC_I (s : State) (v : Word) : (s.setPC v).I = s.I := rfl
@[simp] theorem State.setPC_D (s : State) (v : Word) : (s.setPC v).D = s.D := rfl
@[simp] theorem State.setPC_B (s : State) (v : Word) : (s.setPC v).B = s.B := rfl
@[simp] theorem State.setPC_V (s : State) (v : Word) : (s.setPC v).V = s.V := rfl
@[simp] theorem State.setPC_N (s : State) (v : Word) : (s.setPC v).N = s.N := rfl
@[simp] theorem State.setPC_cycles (s : State) (v : Word) : (s.setPC v).cycles = s.cycles := rfl
@[simp] theorem State.setPC_mem (s : State) (v : Word) : (s.setPC v).mem = s.mem := rfl
@[simp] theorem State.setPC_fault (s : State) (v : Word) : (s.setPC v).fault = s.fault := rfl

-- setC
@[simp] theorem State.setC_A (s : State) (v : Bool) : (s.setC v).A = s.A := rfl
@[simp] theorem State.setC_X (s : State) (v : Bool) : (s.setC v).X = s.X := rfl
@[simp] theorem State.setC_Y (s : State) (v : Bool) : (s.setC v).Y = s.Y := rfl
@[simp] theorem State.setC_SP (s : State) (v : Bool) : (s.setC v).SP = s.SP := rfl
@[simp] theorem State.setC_PC (s : State) (v : Bool) : (s.setC v).PC = s.PC := rfl
@[simp] theorem State.setC_C (s : State) (v : Bool) : (s.setC v).C = v := rfl
@[simp] theorem State.setC_Z (s : State) (v : Bool) : (s.setC v).Z = s.Z := rfl
@[simp] theorem State.setC_I (s : State) (v : Bool) : (s.setC v).I = s.I := rfl
@[simp] theorem State.setC_D (s : State) (v : Bool) : (s.setC v).D = s.D := rfl
@[simp] theorem State.setC_B (s : State) (v : Bool) : (s.setC v).B = s.B := rfl
@[simp] theorem State.setC_V (s : State) (v : Bool) : (s.setC v).V = s.V := rfl
@[simp] theorem State.setC_N (s : State) (v : Bool) : (s.setC v).N = s.N := rfl
@[simp] theorem State.setC_cycles (s : State) (v : Bool) : (s.setC v).cycles = s.cycles := rfl
@[simp] theorem State.setC_mem (s : State) (v : Bool) : (s.setC v).mem = s.mem := rfl
@[simp] theorem State.setC_fault (s : State) (v : Bool) : (s.setC v).fault = s.fault := rfl

-- setZ
@[simp] theorem State.setZ_A (s : State) (v : Bool) : (s.setZ v).A = s.A := rfl
@[simp] theorem State.setZ_X (s : State) (v : Bool) : (s.setZ v).X = s.X := rfl
@[simp] theorem State.setZ_Y (s : State) (v : Bool) : (s.setZ v).Y = s.Y := rfl
@[simp] theorem State.setZ_SP (s : State) (v : Bool) : (s.setZ v).SP = s.SP := rfl
@[simp] theorem State.setZ_PC (s : State) (v : Bool) : (s.setZ v).PC = s.PC := rfl
@[simp] theorem State.setZ_C (s : State) (v : Bool) : (s.setZ v).C = s.C := rfl
@[simp] theorem State.setZ_Z (s : State) (v : Bool) : (s.setZ v).Z = v := rfl
@[simp] theorem State.setZ_I (s : State) (v : Bool) : (s.setZ v).I = s.I := rfl
@[simp] theorem State.setZ_D (s : State) (v : Bool) : (s.setZ v).D = s.D := rfl
@[simp] theorem State.setZ_B (s : State) (v : Bool) : (s.setZ v).B = s.B := rfl
@[simp] theorem State.setZ_V (s : State) (v : Bool) : (s.setZ v).V = s.V := rfl
@[simp] theorem State.setZ_N (s : State) (v : Bool) : (s.setZ v).N = s.N := rfl
@[simp] theorem State.setZ_cycles (s : State) (v : Bool) : (s.setZ v).cycles = s.cycles := rfl
@[simp] theorem State.setZ_mem (s : State) (v : Bool) : (s.setZ v).mem = s.mem := rfl
@[simp] theorem State.setZ_fault (s : State) (v : Bool) : (s.setZ v).fault = s.fault := rfl

-- setI
@[simp] theorem State.setI_A (s : State) (v : Bool) : (s.setI v).A = s.A := rfl
@[simp] theorem State.setI_X (s : State) (v : Bool) : (s.setI v).X = s.X := rfl
@[simp] theorem State.setI_Y (s : State) (v : Bool) : (s.setI v).Y = s.Y := rfl
@[simp] theorem State.setI_SP (s : State) (v : Bool) : (s.setI v).SP = s.SP := rfl
@[simp] theorem State.setI_PC (s : State) (v : Bool) : (s.setI v).PC = s.PC := rfl
@[simp] theorem State.setI_C (s : State) (v : Bool) : (s.setI v).C = s.C := rfl
@[simp] theorem State.setI_Z (s : State) (v : Bool) : (s.setI v).Z = s.Z := rfl
@[simp] theorem State.setI_I (s : State) (v : Bool) : (s.setI v).I = v := rfl
@[simp] theorem State.setI_D (s : State) (v : Bool) : (s.setI v).D = s.D := rfl
@[simp] theorem State.setI_B (s : State) (v : Bool) : (s.setI v).B = s.B := rfl
@[simp] theorem State.setI_V (s : State) (v : Bool) : (s.setI v).V = s.V := rfl
@[simp] theorem State.setI_N (s : State) (v : Bool) : (s.setI v).N = s.N := rfl
@[simp] theorem State.setI_cycles (s : State) (v : Bool) : (s.setI v).cycles = s.cycles := rfl
@[simp] theorem State.setI_mem (s : State) (v : Bool) : (s.setI v).mem = s.mem := rfl
@[simp] theorem State.setI_fault (s : State) (v : Bool) : (s.setI v).fault = s.fault := rfl

-- setD
@[simp] theorem State.setD_A (s : State) (v : Bool) : (s.setD v).A = s.A := rfl
@[simp] theorem State.setD_X (s : State) (v : Bool) : (s.setD v).X = s.X := rfl
@[simp] theorem State.setD_Y (s : State) (v : Bool) : (s.setD v).Y = s.Y := rfl
@[simp] theorem State.setD_SP (s : State) (v : Bool) : (s.setD v).SP = s.SP := rfl
@[simp] theorem State.setD_PC (s : State) (v : Bool) : (s.setD v).PC = s.PC := rfl
@[simp] theorem State.setD_C (s : State) (v : Bool) : (s.setD v).C = s.C := rfl
@[simp] theorem State.setD_Z (s : State) (v : Bool) : (s.setD v).Z = s.Z := rfl
@[simp] theorem State.setD_I (s : State) (v : Bool) : (s.setD v).I = s.I := rfl
@[simp] theorem State.setD_D (s : State) (v : Bool) : (s.setD v).D = v := rfl
@[simp] theorem State.setD_B (s : State) (v : Bool) : (s.setD v).B = s.B := rfl
@[simp] theorem State.setD_V (s : State) (v : Bool) : (s.setD v).V = s.V := rfl
@[simp] theorem State.setD_N (s : State) (v : Bool) : (s.setD v).N = s.N := rfl
@[simp] theorem State.setD_cycles (s : State) (v : Bool) : (s.setD v).cycles = s.cycles := rfl
@[simp] theorem State.setD_mem (s : State) (v : Bool) : (s.setD v).mem = s.mem := rfl
@[simp] theorem State.setD_fault (s : State) (v : Bool) : (s.setD v).fault = s.fault := rfl

-- setB
@[simp] theorem State.setB_A (s : State) (v : Bool) : (s.setB v).A = s.A := rfl
@[simp] theorem State.setB_X (s : State) (v : Bool) : (s.setB v).X = s.X := rfl
@[simp] theorem State.setB_Y (s : State) (v : Bool) : (s.setB v).Y = s.Y := rfl
@[simp] theorem State.setB_SP (s : State) (v : Bool) : (s.setB v).SP = s.SP := rfl
@[simp] theorem State.setB_PC (s : State) (v : Bool) : (s.setB v).PC = s.PC := rfl
@[simp] theorem State.setB_C (s : State) (v : Bool) : (s.setB v).C = s.C := rfl
@[simp] theorem State.setB_Z (s : State) (v : Bool) : (s.setB v).Z = s.Z := rfl
@[simp] theorem State.setB_I (s : State) (v : Bool) : (s.setB v).I = s.I := rfl
@[simp] theorem State.setB_D (s : State) (v : Bool) : (s.setB v).D = s.D := rfl
@[simp] theorem State.setB_B (s : State) (v : Bool) : (s.setB v).B = v := rfl
@[simp] theorem State.setB_V (s : State) (v : Bool) : (s.setB v).V = s.V := rfl
@[simp] theorem State.setB_N (s : State) (v : Bool) : (s.setB v).N = s.N := rfl
@[simp] theorem State.setB_cycles (s : State) (v : Bool) : (s.setB v).cycles = s.cycles := rfl
@[simp] theorem State.setB_mem (s : State) (v : Bool) : (s.setB v).mem = s.mem := rfl
@[simp] theorem State.setB_fault (s : State) (v : Bool) : (s.setB v).fault = s.fault := rfl

-- setV
@[simp] theorem State.setV_A (s : State) (v : Bool) : (s.setV v).A = s.A := rfl
@[simp] theorem State.setV_X (s : State) (v : Bool) : (s.setV v).X = s.X := rfl
@[simp] theorem State.setV_Y (s : State) (v : Bool) : (s.setV v).Y = s.Y := rfl
@[simp] theorem State.setV_SP (s : State) (v : Bool) : (s.setV v).SP = s.SP := rfl
@[simp] theorem State.setV_PC (s : State) (v : Bool) : (s.setV v).PC = s.PC := rfl
@[simp] theorem State.setV_C (s : State) (v : Bool) : (s.setV v).C = s.C := rfl
@[simp] theorem State.setV_Z (s : State) (v : Bool) : (s.setV v).Z = s.Z := rfl
@[simp] theorem State.setV_I (s : State) (v : Bool) : (s.setV v).I = s.I := rfl
@[simp] theorem State.setV_D (s : State) (v : Bool) : (s.setV v).D = s.D := rfl
@[simp] theorem State.setV_B (s : State) (v : Bool) : (s.setV v).B = s.B := rfl
@[simp] theorem State.setV_V (s : State) (v : Bool) : (s.setV v).V = v := rfl
@[simp] theorem State.setV_N (s : State) (v : Bool) : (s.setV v).N = s.N := rfl
@[simp] theorem State.setV_cycles (s : State) (v : Bool) : (s.setV v).cycles = s.cycles := rfl
@[simp] theorem State.setV_mem (s : State) (v : Bool) : (s.setV v).mem = s.mem := rfl
@[simp] theorem State.setV_fault (s : State) (v : Bool) : (s.setV v).fault = s.fault := rfl

-- setN
@[simp] theorem State.setN_A (s : State) (v : Bool) : (s.setN v).A = s.A := rfl
@[simp] theorem State.setN_X (s : State) (v : Bool) : (s.setN v).X = s.X := rfl
@[simp] theorem State.setN_Y (s : State) (v : Bool) : (s.setN v).Y = s.Y := rfl
@[simp] theorem State.setN_SP (s : State) (v : Bool) : (s.setN v).SP = s.SP := rfl
@[simp] theorem State.setN_PC (s : State) (v : Bool) : (s.setN v).PC = s.PC := rfl
@[simp] theorem State.setN_C (s : State) (v : Bool) : (s.setN v).C = s.C := rfl
@[simp] theorem State.setN_Z (s : State) (v : Bool) : (s.setN v).Z = s.Z := rfl
@[simp] theorem State.setN_I (s : State) (v : Bool) : (s.setN v).I = s.I := rfl
@[simp] theorem State.setN_D (s : State) (v : Bool) : (s.setN v).D = s.D := rfl
@[simp] theorem State.setN_B (s : State) (v : Bool) : (s.setN v).B = s.B := rfl
@[simp] theorem State.setN_V (s : State) (v : Bool) : (s.setN v).V = s.V := rfl
@[simp] theorem State.setN_N (s : State) (v : Bool) : (s.setN v).N = v := rfl
@[simp] theorem State.setN_cycles (s : State) (v : Bool) : (s.setN v).cycles = s.cycles := rfl
@[simp] theorem State.setN_mem (s : State) (v : Bool) : (s.setN v).mem = s.mem := rfl
@[simp] theorem State.setN_fault (s : State) (v : Bool) : (s.setN v).fault = s.fault := rfl

-- setCycles
@[simp] theorem State.setCycles_A (s : State) (v : Nat) : (s.setCycles v).A = s.A := rfl
@[simp] theorem State.setCycles_X (s : State) (v : Nat) : (s.setCycles v).X = s.X := rfl
@[simp] theorem State.setCycles_Y (s : State) (v : Nat) : (s.setCycles v).Y = s.Y := rfl
@[simp] theorem State.setCycles_SP (s : State) (v : Nat) : (s.setCycles v).SP = s.SP := rfl
@[simp] theorem State.setCycles_PC (s : State) (v : Nat) : (s.setCycles v).PC = s.PC := rfl
@[simp] theorem State.setCycles_C (s : State) (v : Nat) : (s.setCycles v).C = s.C := rfl
@[simp] theorem State.setCycles_Z (s : State) (v : Nat) : (s.setCycles v).Z = s.Z := rfl
@[simp] theorem State.setCycles_I (s : State) (v : Nat) : (s.setCycles v).I = s.I := rfl
@[simp] theorem State.setCycles_D (s : State) (v : Nat) : (s.setCycles v).D = s.D := rfl
@[simp] theorem State.setCycles_B (s : State) (v : Nat) : (s.setCycles v).B = s.B := rfl
@[simp] theorem State.setCycles_V (s : State) (v : Nat) : (s.setCycles v).V = s.V := rfl
@[simp] theorem State.setCycles_N (s : State) (v : Nat) : (s.setCycles v).N = s.N := rfl
@[simp] theorem State.setCycles_cycles (s : State) (v : Nat) : (s.setCycles v).cycles = v := rfl
@[simp] theorem State.setCycles_mem (s : State) (v : Nat) : (s.setCycles v).mem = s.mem := rfl
@[simp] theorem State.setCycles_fault (s : State) (v : Nat) : (s.setCycles v).fault = s.fault := rfl

-- setMem
@[simp] theorem State.setMem_A (s : State) (v : Memory) : (s.setMem v).A = s.A := rfl
@[simp] theorem State.setMem_X (s : State) (v : Memory) : (s.setMem v).X = s.X := rfl
@[simp] theorem State.setMem_Y (s : State) (v : Memory) : (s.setMem v).Y = s.Y := rfl
@[simp] theorem State.setMem_SP (s : State) (v : Memory) : (s.setMem v).SP = s.SP := rfl
@[simp] theorem State.setMem_PC (s : State) (v : Memory) : (s.setMem v).PC = s.PC := rfl
@[simp] theorem State.setMem_C (s : State) (v : Memory) : (s.setMem v).C = s.C := rfl
@[simp] theorem State.setMem_Z (s : State) (v : Memory) : (s.setMem v).Z = s.Z := rfl
@[simp] theorem State.setMem_I (s : State) (v : Memory) : (s.setMem v).I = s.I := rfl
@[simp] theorem State.setMem_D (s : State) (v : Memory) : (s.setMem v).D = s.D := rfl
@[simp] theorem State.setMem_B (s : State) (v : Memory) : (s.setMem v).B = s.B := rfl
@[simp] theorem State.setMem_V (s : State) (v : Memory) : (s.setMem v).V = s.V := rfl
@[simp] theorem State.setMem_N (s : State) (v : Memory) : (s.setMem v).N = s.N := rfl
@[simp] theorem State.setMem_cycles (s : State) (v : Memory) : (s.setMem v).cycles = s.cycles := rfl
@[simp] theorem State.setMem_mem (s : State) (v : Memory) : (s.setMem v).mem = v := rfl
@[simp] theorem State.setMem_fault (s : State) (v : Memory) : (s.setMem v).fault = s.fault := rfl

-- setFault
@[simp] theorem State.setFault_A (s : State) (v : Option Fault) : (s.setFault v).A = s.A := rfl
@[simp] theorem State.setFault_X (s : State) (v : Option Fault) : (s.setFault v).X = s.X := rfl
@[simp] theorem State.setFault_Y (s : State) (v : Option Fault) : (s.setFault v).Y = s.Y := rfl
@[simp] theorem State.setFault_SP (s : State) (v : Option Fault) : (s.setFault v).SP = s.SP := rfl
@[simp] theorem State.setFault_PC (s : State) (v : Option Fault) : (s.setFault v).PC = s.PC := rfl
@[simp] theorem State.setFault_C (s : State) (v : Option Fault) : (s.setFault v).C = s.C := rfl
@[simp] theorem State.setFault_Z (s : State) (v : Option Fault) : (s.setFault v).Z = s.Z := rfl
@[simp] theorem State.setFault_I (s : State) (v : Option Fault) : (s.setFault v).I = s.I := rfl
@[simp] theorem State.setFault_D (s : State) (v : Option Fault) : (s.setFault v).D = s.D := rfl
@[simp] theorem State.setFault_B (s : State) (v : Option Fault) : (s.setFault v).B = s.B := rfl
@[simp] theorem State.setFault_V (s : State) (v : Option Fault) : (s.setFault v).V = s.V := rfl
@[simp] theorem State.setFault_N (s : State) (v : Option Fault) : (s.setFault v).N = s.N := rfl
@[simp] theorem State.setFault_cycles (s : State) (v : Option Fault) : (s.setFault v).cycles = s.cycles := rfl
@[simp] theorem State.setFault_mem (s : State) (v : Option Fault) : (s.setFault v).mem = s.mem := rfl
@[simp] theorem State.setFault_fault (s : State) (v : Option Fault) : (s.setFault v).fault = v := rfl

-- addCycles
@[simp] theorem State.addCycles_A (s : State) (n : Nat) : (s.addCycles n).A = s.A := rfl
@[simp] theorem State.addCycles_X (s : State) (n : Nat) : (s.addCycles n).X = s.X := rfl
@[simp] theorem State.addCycles_Y (s : State) (n : Nat) : (s.addCycles n).Y = s.Y := rfl
@[simp] theorem State.addCycles_SP (s : State) (n : Nat) : (s.addCycles n).SP = s.SP := rfl
@[simp] theorem State.addCycles_PC (s : State) (n : Nat) : (s.addCycles n).PC = s.PC := rfl
@[simp] theorem State.addCycles_C (s : State) (n : Nat) : (s.addCycles n).C = s.C := rfl
@[simp] theorem State.addCycles_Z (s : State) (n : Nat) : (s.addCycles n).Z = s.Z := rfl
@[simp] theorem State.addCycles_I (s : State) (n : Nat) : (s.addCycles n).I = s.I := rfl
@[simp] theorem State.addCycles_D (s : State) (n : Nat) : (s.addCycles n).D = s.D := rfl
@[simp] theorem State.addCycles_B (s : State) (n : Nat) : (s.addCycles n).B = s.B := rfl
@[simp] theorem State.addCycles_V (s : State) (n : Nat) : (s.addCycles n).V = s.V := rfl
@[simp] theorem State.addCycles_N (s : State) (n : Nat) : (s.addCycles n).N = s.N := rfl
@[simp] theorem State.addCycles_cycles (s : State) (n : Nat) : (s.addCycles n).cycles = s.cycles + n := rfl
@[simp] theorem State.addCycles_mem (s : State) (n : Nat) : (s.addCycles n).mem = s.mem := rfl
@[simp] theorem State.addCycles_fault (s : State) (n : Nat) : (s.addCycles n).fault = s.fault := rfl

-- setZN (R35)
@[simp] theorem State.setZN_A (s : State) (v : Byte) : (s.setZN v).A = s.A := rfl
@[simp] theorem State.setZN_X (s : State) (v : Byte) : (s.setZN v).X = s.X := rfl
@[simp] theorem State.setZN_Y (s : State) (v : Byte) : (s.setZN v).Y = s.Y := rfl
@[simp] theorem State.setZN_SP (s : State) (v : Byte) : (s.setZN v).SP = s.SP := rfl
@[simp] theorem State.setZN_PC (s : State) (v : Byte) : (s.setZN v).PC = s.PC := rfl
@[simp] theorem State.setZN_C (s : State) (v : Byte) : (s.setZN v).C = s.C := rfl
@[simp] theorem State.setZN_Z (s : State) (v : Byte) : (s.setZN v).Z = decide (v = 0#8) := rfl
@[simp] theorem State.setZN_I (s : State) (v : Byte) : (s.setZN v).I = s.I := rfl
@[simp] theorem State.setZN_D (s : State) (v : Byte) : (s.setZN v).D = s.D := rfl
@[simp] theorem State.setZN_B (s : State) (v : Byte) : (s.setZN v).B = s.B := rfl
@[simp] theorem State.setZN_V (s : State) (v : Byte) : (s.setZN v).V = s.V := rfl
@[simp] theorem State.setZN_N (s : State) (v : Byte) : (s.setZN v).N = byteBit v 7 := rfl
@[simp] theorem State.setZN_cycles (s : State) (v : Byte) : (s.setZN v).cycles = s.cycles := rfl
@[simp] theorem State.setZN_mem (s : State) (v : Byte) : (s.setZN v).mem = s.mem := rfl
@[simp] theorem State.setZN_fault (s : State) (v : Byte) : (s.setZN v).fault = s.fault := rfl

-- unpackP (R38)
@[simp] theorem unpackP_A (s : State) (b : Byte) : (unpackP s b).A = s.A := rfl
@[simp] theorem unpackP_X (s : State) (b : Byte) : (unpackP s b).X = s.X := rfl
@[simp] theorem unpackP_Y (s : State) (b : Byte) : (unpackP s b).Y = s.Y := rfl
@[simp] theorem unpackP_SP (s : State) (b : Byte) : (unpackP s b).SP = s.SP := rfl
@[simp] theorem unpackP_PC (s : State) (b : Byte) : (unpackP s b).PC = s.PC := rfl
@[simp] theorem unpackP_C (s : State) (b : Byte) : (unpackP s b).C = byteBit b 0 := rfl
@[simp] theorem unpackP_Z (s : State) (b : Byte) : (unpackP s b).Z = byteBit b 1 := rfl
@[simp] theorem unpackP_I (s : State) (b : Byte) : (unpackP s b).I = byteBit b 2 := rfl
@[simp] theorem unpackP_D (s : State) (b : Byte) : (unpackP s b).D = byteBit b 3 := rfl
@[simp] theorem unpackP_B (s : State) (b : Byte) : (unpackP s b).B = s.B := rfl
@[simp] theorem unpackP_V (s : State) (b : Byte) : (unpackP s b).V = byteBit b 6 := rfl
@[simp] theorem unpackP_N (s : State) (b : Byte) : (unpackP s b).N = byteBit b 7 := rfl
@[simp] theorem unpackP_cycles (s : State) (b : Byte) : (unpackP s b).cycles = s.cycles := rfl
@[simp] theorem unpackP_mem (s : State) (b : Byte) : (unpackP s b).mem = s.mem := rfl
@[simp] theorem unpackP_fault (s : State) (b : Byte) : (unpackP s b).fault = s.fault := rfl

-- compareReg (R153)
@[simp] theorem compareReg_A (reg m : Byte) (s : State) : (compareReg reg m s).A = s.A := rfl
@[simp] theorem compareReg_X (reg m : Byte) (s : State) : (compareReg reg m s).X = s.X := rfl
@[simp] theorem compareReg_Y (reg m : Byte) (s : State) : (compareReg reg m s).Y = s.Y := rfl
@[simp] theorem compareReg_SP (reg m : Byte) (s : State) : (compareReg reg m s).SP = s.SP := rfl
@[simp] theorem compareReg_PC (reg m : Byte) (s : State) : (compareReg reg m s).PC = s.PC := rfl
@[simp] theorem compareReg_C (reg m : Byte) (s : State) : (compareReg reg m s).C = decide (m.toNat ≤ reg.toNat) := rfl
@[simp] theorem compareReg_Z (reg m : Byte) (s : State) : (compareReg reg m s).Z = decide (reg - m = 0#8) := rfl
@[simp] theorem compareReg_I (reg m : Byte) (s : State) : (compareReg reg m s).I = s.I := rfl
@[simp] theorem compareReg_D (reg m : Byte) (s : State) : (compareReg reg m s).D = s.D := rfl
@[simp] theorem compareReg_B (reg m : Byte) (s : State) : (compareReg reg m s).B = s.B := rfl
@[simp] theorem compareReg_V (reg m : Byte) (s : State) : (compareReg reg m s).V = s.V := rfl
@[simp] theorem compareReg_N (reg m : Byte) (s : State) : (compareReg reg m s).N = byteBit (reg - m) 7 := rfl
@[simp] theorem compareReg_cycles (reg m : Byte) (s : State) : (compareReg reg m s).cycles = s.cycles := rfl
@[simp] theorem compareReg_mem (reg m : Byte) (s : State) : (compareReg reg m s).mem = s.mem := rfl
@[simp] theorem compareReg_fault (reg m : Byte) (s : State) : (compareReg reg m s).fault = s.fault := rfl

-- bitTest (R164)
@[simp] theorem bitTest_A (m : Byte) (s : State) : (bitTest m s).A = s.A := rfl
@[simp] theorem bitTest_X (m : Byte) (s : State) : (bitTest m s).X = s.X := rfl
@[simp] theorem bitTest_Y (m : Byte) (s : State) : (bitTest m s).Y = s.Y := rfl
@[simp] theorem bitTest_SP (m : Byte) (s : State) : (bitTest m s).SP = s.SP := rfl
@[simp] theorem bitTest_PC (m : Byte) (s : State) : (bitTest m s).PC = s.PC := rfl
@[simp] theorem bitTest_C (m : Byte) (s : State) : (bitTest m s).C = s.C := rfl
@[simp] theorem bitTest_Z (m : Byte) (s : State) : (bitTest m s).Z = decide (s.A &&& m = 0#8) := rfl
@[simp] theorem bitTest_I (m : Byte) (s : State) : (bitTest m s).I = s.I := rfl
@[simp] theorem bitTest_D (m : Byte) (s : State) : (bitTest m s).D = s.D := rfl
@[simp] theorem bitTest_B (m : Byte) (s : State) : (bitTest m s).B = s.B := rfl
@[simp] theorem bitTest_V (m : Byte) (s : State) : (bitTest m s).V = byteBit m 6 := rfl
@[simp] theorem bitTest_N (m : Byte) (s : State) : (bitTest m s).N = byteBit m 7 := rfl
@[simp] theorem bitTest_cycles (m : Byte) (s : State) : (bitTest m s).cycles = s.cycles := rfl
@[simp] theorem bitTest_mem (m : Byte) (s : State) : (bitTest m s).mem = s.mem := rfl
@[simp] theorem bitTest_fault (m : Byte) (s : State) : (bitTest m s).fault = s.fault := rfl

-- writeByte (R52)
@[simp] theorem State.writeByte_A (s : State) (a : Word) (v : Byte) : (s.writeByte a v).A = s.A := rfl
@[simp] theorem State.writeByte_X (s : State) (a : Word) (v : Byte) : (s.writeByte a v).X = s.X := rfl
@[simp] theorem State.writeByte_Y (s : State) (a : Word) (v : Byte) : (s.writeByte a v).Y = s.Y := rfl
@[simp] theorem State.writeByte_SP (s : State) (a : Word) (v : Byte) : (s.writeByte a v).SP = s.SP := rfl
@[simp] theorem State.writeByte_PC (s : State) (a : Word) (v : Byte) : (s.writeByte a v).PC = s.PC := rfl
@[simp] theorem State.writeByte_C (s : State) (a : Word) (v : Byte) : (s.writeByte a v).C = s.C := rfl
@[simp] theorem State.writeByte_Z (s : State) (a : Word) (v : Byte) : (s.writeByte a v).Z = s.Z := rfl
@[simp] theorem State.writeByte_I (s : State) (a : Word) (v : Byte) : (s.writeByte a v).I = s.I := rfl
@[simp] theorem State.writeByte_D (s : State) (a : Word) (v : Byte) : (s.writeByte a v).D = s.D := rfl
@[simp] theorem State.writeByte_B (s : State) (a : Word) (v : Byte) : (s.writeByte a v).B = s.B := rfl
@[simp] theorem State.writeByte_V (s : State) (a : Word) (v : Byte) : (s.writeByte a v).V = s.V := rfl
@[simp] theorem State.writeByte_N (s : State) (a : Word) (v : Byte) : (s.writeByte a v).N = s.N := rfl
@[simp] theorem State.writeByte_cycles (s : State) (a : Word) (v : Byte) : (s.writeByte a v).cycles = s.cycles := rfl
@[simp] theorem State.writeByte_mem (s : State) (a : Word) (v : Byte) : (s.writeByte a v).mem = s.mem.write a.toNat v := rfl
@[simp] theorem State.writeByte_fault (s : State) (a : Word) (v : Byte) : (s.writeByte a v).fault = s.fault := rfl

-- push8 (R63)
@[simp] theorem State.push8_A (s : State) (v : Byte) : (s.push8 v).A = s.A := rfl
@[simp] theorem State.push8_X (s : State) (v : Byte) : (s.push8 v).X = s.X := rfl
@[simp] theorem State.push8_Y (s : State) (v : Byte) : (s.push8 v).Y = s.Y := rfl
@[simp] theorem State.push8_SP (s : State) (v : Byte) : (s.push8 v).SP = s.SP - 1 := rfl
@[simp] theorem State.push8_PC (s : State) (v : Byte) : (s.push8 v).PC = s.PC := rfl
@[simp] theorem State.push8_C (s : State) (v : Byte) : (s.push8 v).C = s.C := rfl
@[simp] theorem State.push8_Z (s : State) (v : Byte) : (s.push8 v).Z = s.Z := rfl
@[simp] theorem State.push8_I (s : State) (v : Byte) : (s.push8 v).I = s.I := rfl
@[simp] theorem State.push8_D (s : State) (v : Byte) : (s.push8 v).D = s.D := rfl
@[simp] theorem State.push8_B (s : State) (v : Byte) : (s.push8 v).B = s.B := rfl
@[simp] theorem State.push8_V (s : State) (v : Byte) : (s.push8 v).V = s.V := rfl
@[simp] theorem State.push8_N (s : State) (v : Byte) : (s.push8 v).N = s.N := rfl
@[simp] theorem State.push8_cycles (s : State) (v : Byte) : (s.push8 v).cycles = s.cycles := rfl
@[simp] theorem State.push8_mem (s : State) (v : Byte) : (s.push8 v).mem = s.mem.write (stackAddr s.SP).toNat v := rfl
@[simp] theorem State.push8_fault (s : State) (v : Byte) : (s.push8 v).fault = s.fault := rfl

-- push16 (R65)
@[simp] theorem State.push16_A (s : State) (w : Word) : (s.push16 w).A = s.A := by simp [State.push16]
@[simp] theorem State.push16_X (s : State) (w : Word) : (s.push16 w).X = s.X := by simp [State.push16]
@[simp] theorem State.push16_Y (s : State) (w : Word) : (s.push16 w).Y = s.Y := by simp [State.push16]
@[simp] theorem State.push16_SP (s : State) (w : Word) : (s.push16 w).SP = s.SP - 1 - 1 := by simp [State.push16]
@[simp] theorem State.push16_PC (s : State) (w : Word) : (s.push16 w).PC = s.PC := by simp [State.push16]
@[simp] theorem State.push16_C (s : State) (w : Word) : (s.push16 w).C = s.C := by simp [State.push16]
@[simp] theorem State.push16_Z (s : State) (w : Word) : (s.push16 w).Z = s.Z := by simp [State.push16]
@[simp] theorem State.push16_I (s : State) (w : Word) : (s.push16 w).I = s.I := by simp [State.push16]
@[simp] theorem State.push16_D (s : State) (w : Word) : (s.push16 w).D = s.D := by simp [State.push16]
@[simp] theorem State.push16_B (s : State) (w : Word) : (s.push16 w).B = s.B := by simp [State.push16]
@[simp] theorem State.push16_V (s : State) (w : Word) : (s.push16 w).V = s.V := by simp [State.push16]
@[simp] theorem State.push16_N (s : State) (w : Word) : (s.push16 w).N = s.N := by simp [State.push16]
@[simp] theorem State.push16_cycles (s : State) (w : Word) : (s.push16 w).cycles = s.cycles := by simp [State.push16]
@[simp] theorem State.push16_mem (s : State) (w : Word) : (s.push16 w).mem = (s.mem.write (stackAddr s.SP).toNat (hi8 w)).write (stackAddr (s.SP - 1)).toNat (lo8 w) := by simp [State.push16]
@[simp] theorem State.push16_fault (s : State) (w : Word) : (s.push16 w).fault = s.fault := by simp [State.push16]

-- drop8 and drop16 (R64, R66)
@[simp] theorem State.drop8_A (s : State) : s.drop8.A = s.A := rfl
@[simp] theorem State.drop8_X (s : State) : s.drop8.X = s.X := rfl
@[simp] theorem State.drop8_Y (s : State) : s.drop8.Y = s.Y := rfl
@[simp] theorem State.drop8_SP (s : State) : s.drop8.SP = s.SP + 1 := rfl
@[simp] theorem State.drop8_PC (s : State) : s.drop8.PC = s.PC := rfl
@[simp] theorem State.drop8_C (s : State) : s.drop8.C = s.C := rfl
@[simp] theorem State.drop8_Z (s : State) : s.drop8.Z = s.Z := rfl
@[simp] theorem State.drop8_I (s : State) : s.drop8.I = s.I := rfl
@[simp] theorem State.drop8_D (s : State) : s.drop8.D = s.D := rfl
@[simp] theorem State.drop8_B (s : State) : s.drop8.B = s.B := rfl
@[simp] theorem State.drop8_V (s : State) : s.drop8.V = s.V := rfl
@[simp] theorem State.drop8_N (s : State) : s.drop8.N = s.N := rfl
@[simp] theorem State.drop8_cycles (s : State) : s.drop8.cycles = s.cycles := rfl
@[simp] theorem State.drop8_mem (s : State) : s.drop8.mem = s.mem := rfl
@[simp] theorem State.drop8_fault (s : State) : s.drop8.fault = s.fault := rfl
@[simp] theorem State.drop16_A (s : State) : s.drop16.A = s.A := rfl
@[simp] theorem State.drop16_X (s : State) : s.drop16.X = s.X := rfl
@[simp] theorem State.drop16_Y (s : State) : s.drop16.Y = s.Y := rfl
@[simp] theorem State.drop16_SP (s : State) : s.drop16.SP = s.SP + 1 + 1 := rfl
@[simp] theorem State.drop16_PC (s : State) : s.drop16.PC = s.PC := rfl
@[simp] theorem State.drop16_C (s : State) : s.drop16.C = s.C := rfl
@[simp] theorem State.drop16_Z (s : State) : s.drop16.Z = s.Z := rfl
@[simp] theorem State.drop16_I (s : State) : s.drop16.I = s.I := rfl
@[simp] theorem State.drop16_D (s : State) : s.drop16.D = s.D := rfl
@[simp] theorem State.drop16_B (s : State) : s.drop16.B = s.B := rfl
@[simp] theorem State.drop16_V (s : State) : s.drop16.V = s.V := rfl
@[simp] theorem State.drop16_N (s : State) : s.drop16.N = s.N := rfl
@[simp] theorem State.drop16_cycles (s : State) : s.drop16.cycles = s.cycles := rfl
@[simp] theorem State.drop16_mem (s : State) : s.drop16.mem = s.mem := rfl
@[simp] theorem State.drop16_fault (s : State) : s.drop16.fault = s.fault := rfl

end Sys2Proof.Machine
end

