-- ==== Sys2Proof/Laws/Word.lean ====
section
/-! SUPPORT. The laws of the byte-order, extension and page helpers (spec/00_scope.md rules R7, R8). -/

namespace Sys2Proof

theorem hi8_toNat (w : Word) : (hi8 w).toNat = w.toNat / 256 := by
  have := w.isLt
  simp only [hi8, BitVec.toNat_ofNat]
  omega

theorem lo8_toNat (w : Word) : (lo8 w).toNat = w.toNat % 256 := by simp [lo8]

theorem mkWord_toNat (h l : Byte) : (mkWord h l).toNat = h.toNat * 256 + l.toNat := by
  have := h.isLt
  have := l.isLt
  simp only [mkWord, BitVec.toNat_ofNat]
  omega

@[simp] theorem hi8_mkWord (h l : Byte) : hi8 (mkWord h l) = h := by
  apply BitVec.eq_of_toNat_eq
  have := l.isLt
  rw [hi8_toNat, mkWord_toNat]
  omega

@[simp] theorem lo8_mkWord (h l : Byte) : lo8 (mkWord h l) = l := by
  apply BitVec.eq_of_toNat_eq
  have := l.isLt
  rw [lo8_toNat, mkWord_toNat]
  omega

@[simp] theorem mkWord_hi8_lo8 (w : Word) : mkWord (hi8 w) (lo8 w) = w := by
  apply BitVec.eq_of_toNat_eq
  rw [mkWord_toNat, hi8_toNat, lo8_toNat]
  omega

namespace Machine

theorem zext16_toNat (b : Byte) : (zext16 b).toNat = b.toNat := by
  have := b.isLt
  simp only [zext16, BitVec.toNat_ofNat]
  omega

theorem stackAddr_toNat (sp : Byte) : (stackAddr sp).toNat = 256 + sp.toNat := by
  have := sp.isLt
  have h : Config.stackBase.toNat = 256 := rfl
  rw [stackAddr, BitVec.toNat_add, zext16_toNat, h]
  omega

/-- Two stack pointers name the same cell only when they are equal: the stack never leaves its page (R62). -/
theorem stackAddr_injective {p q : Byte} (h : stackAddr p = stackAddr q) : p = q := by
  have h' := congrArg BitVec.toNat h
  rw [stackAddr_toNat, stackAddr_toNat] at h'
  exact BitVec.eq_of_toNat_eq (by omega)

/-- The two ways R8 gives of reading a byte as a signed word agree. -/
theorem sext16_eq_signExtend : ∀ b : Byte, sext16 b = b.signExtend 16 := by decide

@[simp] theorem pageCross_self (a : Word) : pageCross a a = false := by simp [pageCross]

end Machine

end Sys2Proof
end

