-- ==== Sys2Proof/Laws/Ops.lean ====
section
/-! SUPPORT. What the shared operations of Machine/Ops.lean do, said once: the reads and the canonical form after a write or
a push, and the end of a step. -/

namespace Sys2Proof.Machine

/-- Reading a byte depends on the memory alone. -/
theorem State.readByte_congr {s t : State} (h : s.mem = t.mem) (a : Word) : s.readByte a = t.readByte a := by
  simp [State.readByte, h]

@[simp] theorem State.readByte_setA (s : State) (v : Byte) (a : Word) : (s.setA v).readByte a = s.readByte a := rfl
@[simp] theorem State.readByte_setX (s : State) (v : Byte) (a : Word) : (s.setX v).readByte a = s.readByte a := rfl
@[simp] theorem State.readByte_setY (s : State) (v : Byte) (a : Word) : (s.setY v).readByte a = s.readByte a := rfl
@[simp] theorem State.readByte_setSP (s : State) (v : Byte) (a : Word) : (s.setSP v).readByte a = s.readByte a := rfl
@[simp] theorem State.readByte_setPC (s : State) (v : Word) (a : Word) : (s.setPC v).readByte a = s.readByte a := rfl
@[simp] theorem State.readByte_setC (s : State) (v : Bool) (a : Word) : (s.setC v).readByte a = s.readByte a := rfl
@[simp] theorem State.readByte_setZ (s : State) (v : Bool) (a : Word) : (s.setZ v).readByte a = s.readByte a := rfl
@[simp] theorem State.readByte_setI (s : State) (v : Bool) (a : Word) : (s.setI v).readByte a = s.readByte a := rfl
@[simp] theorem State.readByte_setD (s : State) (v : Bool) (a : Word) : (s.setD v).readByte a = s.readByte a := rfl
@[simp] theorem State.readByte_setB (s : State) (v : Bool) (a : Word) : (s.setB v).readByte a = s.readByte a := rfl
@[simp] theorem State.readByte_setV (s : State) (v : Bool) (a : Word) : (s.setV v).readByte a = s.readByte a := rfl
@[simp] theorem State.readByte_setN (s : State) (v : Bool) (a : Word) : (s.setN v).readByte a = s.readByte a := rfl
@[simp] theorem State.readByte_setCycles (s : State) (v : Nat) (a : Word) : (s.setCycles v).readByte a = s.readByte a := rfl
@[simp] theorem State.readByte_setFault (s : State) (v : Option Fault) (a : Word) : (s.setFault v).readByte a = s.readByte a := rfl
@[simp] theorem State.readByte_addCycles (s : State) (v : Nat) (a : Word) : (s.addCycles v).readByte a = s.readByte a := rfl
@[simp] theorem State.readByte_setZN (s : State) (v : Byte) (a : Word) : (s.setZN v).readByte a = s.readByte a := rfl

@[simp] theorem State.readByte_unpackP (s : State) (b : Byte) (a : Word) : (unpackP s b).readByte a = s.readByte a := rfl

@[simp] theorem State.readByte_drop8 (s : State) (a : Word) : s.drop8.readByte a = s.readByte a := rfl

@[simp] theorem State.readByte_drop16 (s : State) (a : Word) : s.drop16.readByte a = s.readByte a := rfl

/-- R52: the frame of a byte write. -/
theorem State.readByte_writeByte_other {a b : Word} (s : State) (v : Byte) (h : b ≠ a) :
    (s.writeByte a v).readByte b = s.readByte b :=
  Memory.read_write_other s.mem v fun e => h (BitVec.eq_of_toNat_eq e)

/-- R52: the byte written is read back. -/
theorem State.readByte_writeByte_same {s : State} (h : s.mem.wf = true) (a : Word) (v : Byte) :
    (s.writeByte a v).readByte a = v :=
  Memory.read_write_same h a.toNat v

theorem State.writeByte_canonical {s : State} (h : s.mem.wf = true) (a : Word) (v : Byte) :
    (s.writeByte a v).mem.wf = true :=
  Memory.wf_write h a v

theorem State.writeWord_canonical {s : State} (h : s.mem.wf = true) (a w : Word) : (s.writeWord a w).mem.wf = true :=
  State.writeByte_canonical (State.writeByte_canonical h a _) _ _

theorem State.push8_canonical {s : State} (h : s.mem.wf = true) (v : Byte) : (s.push8 v).mem.wf = true :=
  State.writeByte_canonical h _ v

theorem State.push16_canonical {s : State} (h : s.mem.wf = true) (w : Word) : (s.push16 w).mem.wf = true :=
  State.push8_canonical (State.push8_canonical h _) _

theorem trapEntry_canonical {s : State} (h : s.mem.wf = true) : (trapEntry s).mem.wf = true := by
  rw [trapEntry, State.setB_mem, State.setI_mem]
  exact State.push8_canonical (State.push16_canonical h _) _

theorem placeAtPC_canonical {s : State} (h : s.mem.wf = true) (w : Nat) : (placeAtPC s w).mem.wf = true := by
  rw [placeAtPC, State.setFault_mem]
  exact State.writeByte_canonical (State.writeByte_canonical (State.writeByte_canonical h _ _) _ _) _ _

/-- A push leaves every cell but the one it writes (R63). -/
theorem State.readByte_push8_other {s : State} {a : Word} (v : Byte) (h : a ≠ stackAddr s.SP) :
    (s.push8 v).readByte a = s.readByte a :=
  State.readByte_writeByte_other s v h

/-- The byte pushed lies in the cell SP named (R63). -/
theorem State.readByte_push8_same {s : State} (h : s.mem.wf = true) (v : Byte) :
    (s.push8 v).readByte (stackAddr s.SP) = v :=
  State.readByte_writeByte_same h _ v

/-- Two pushes lower SP by 2 (R65). -/
theorem State.push16_SP_eq (s : State) (w : Word) : (s.push16 w).SP = s.SP - 2 := by
  rw [State.push16_SP]
  bv_omega

/-- The cells of two pushes are different (R62). -/
theorem stackAddr_sub_one_ne (p : Byte) : stackAddr p ≠ stackAddr (p - 1) := fun h => by
  have h' := stackAddr_injective h
  bv_omega

theorem stackAddr_sub_two_ne (p : Byte) : stackAddr p ≠ stackAddr (p - 2) := fun h => by
  have h' := stackAddr_injective h
  bv_omega

theorem stackAddr_sub_one_ne_sub_two (p : Byte) : stackAddr (p - 1) ≠ stackAddr (p - 2) := fun h => by
  have h' := stackAddr_injective h
  bv_omega

/-- A word push leaves every cell but its two (R65). -/
theorem State.readByte_push16_other {s : State} {a : Word} (w : Word) (h0 : a ≠ stackAddr s.SP)
    (h1 : a ≠ stackAddr (s.SP - 1)) : (s.push16 w).readByte a = s.readByte a := by
  have e := s.push8_SP (hi8 w)
  rw [State.push16, State.readByte_push8_other _ (by rw [e]; exact h1), State.readByte_push8_other _ h0]

/-- The high byte of a pushed word lies in the upper cell (R65). -/
theorem State.readByte_push16_high {s : State} (h : s.mem.wf = true) (w : Word) :
    (s.push16 w).readByte (stackAddr s.SP) = hi8 w := by
  have e := s.push8_SP (hi8 w)
  rw [State.push16, State.readByte_push8_other _ (by rw [e]; exact stackAddr_sub_one_ne _),
    State.readByte_push8_same h]

/-- The low byte of a pushed word lies in the lower cell (R65). -/
theorem State.readByte_push16_low {s : State} (h : s.mem.wf = true) (w : Word) :
    (s.push16 w).readByte (stackAddr (s.SP - 1)) = lo8 w := by
  rw [State.push16, ← s.push8_SP (hi8 w)]
  exact State.readByte_push8_same (State.push8_canonical h _) _

/-- What a cell reads as after trap entry is what the three pushes left there (R227). -/
theorem trapEntry_readByte (s : State) (a : Word) :
    (trapEntry s).readByte a = ((s.push16 (s.PC + 2)).push8 (packP s)).readByte a := rfl

/-- What trap entry leaves in each field (R227). -/
theorem trapEntry_fields (s : State) :
    (trapEntry s).A = s.A ∧ (trapEntry s).X = s.X ∧ (trapEntry s).Y = s.Y ∧ (trapEntry s).SP = s.SP - 1 - 1 - 1 ∧
      (trapEntry s).PC = s.PC ∧ (trapEntry s).C = s.C ∧ (trapEntry s).Z = s.Z ∧ (trapEntry s).I = true ∧
      (trapEntry s).D = s.D ∧ (trapEntry s).B = true ∧ (trapEntry s).V = s.V ∧ (trapEntry s).N = s.N ∧
      (trapEntry s).cycles = s.cycles ∧ (trapEntry s).fault = s.fault := by
  simp [trapEntry]

/-- Every instruction ends so (R85 step 4). -/
theorem finish_eq (next : Word) (cost : Nat) (s : State) :
    finish next cost s = .next ((s.setPC next).addCycles cost) := rfl

/-- What an end of an instruction can answer. -/
theorem finish_next_iff {next : Word} {cost : Nat} {s t : State} :
    finish next cost s = .next t ↔ t = (s.setPC next).addCycles cost := by
  simp only [finish, Host.Outcome.next.injEq]
  exact eq_comm

end Sys2Proof.Machine
end

