-- ==== Sys2Proof/Laws/Operands.lean ====
section
/-! SUPPORT. What the operand helpers and the shared shapes of instructions do, said once. -/

namespace Sys2Proof.Machine

@[simp] theorem storeOperand_X (p : Place) (v : Byte) (s : State) : (storeOperand p v s).X = s.X := by cases p <;> rfl
@[simp] theorem storeOperand_Y (p : Place) (v : Byte) (s : State) : (storeOperand p v s).Y = s.Y := by cases p <;> rfl
@[simp] theorem storeOperand_SP (p : Place) (v : Byte) (s : State) : (storeOperand p v s).SP = s.SP := by cases p <;> rfl
@[simp] theorem storeOperand_PC (p : Place) (v : Byte) (s : State) : (storeOperand p v s).PC = s.PC := by cases p <;> rfl
@[simp] theorem storeOperand_C (p : Place) (v : Byte) (s : State) : (storeOperand p v s).C = s.C := by cases p <;> rfl
@[simp] theorem storeOperand_Z (p : Place) (v : Byte) (s : State) : (storeOperand p v s).Z = s.Z := by cases p <;> rfl
@[simp] theorem storeOperand_I (p : Place) (v : Byte) (s : State) : (storeOperand p v s).I = s.I := by cases p <;> rfl
@[simp] theorem storeOperand_D (p : Place) (v : Byte) (s : State) : (storeOperand p v s).D = s.D := by cases p <;> rfl
@[simp] theorem storeOperand_B (p : Place) (v : Byte) (s : State) : (storeOperand p v s).B = s.B := by cases p <;> rfl
@[simp] theorem storeOperand_V (p : Place) (v : Byte) (s : State) : (storeOperand p v s).V = s.V := by cases p <;> rfl
@[simp] theorem storeOperand_N (p : Place) (v : Byte) (s : State) : (storeOperand p v s).N = s.N := by cases p <;> rfl
@[simp] theorem storeOperand_cycles (p : Place) (v : Byte) (s : State) : (storeOperand p v s).cycles = s.cycles := by cases p <;> rfl
@[simp] theorem storeOperand_fault (p : Place) (v : Byte) (s : State) : (storeOperand p v s).fault = s.fault := by cases p <;> rfl

/-- Only the accumulator form writes A (R102, R116). -/
theorem storeOperand_A (p : Place) (v : Byte) (s : State) : (storeOperand p v s).A = if p = .acc then v else s.A := by
  cases p <;> simp [storeOperand]

/-- Only a memory form writes memory, and only its own cell (R116). -/
theorem storeOperand_readByte {p : Place} {a : Word} (v : Byte) (s : State) (h : p ≠ .mem a) :
    (storeOperand p v s).readByte a = s.readByte a := by
  cases p with
  | imm w => rfl
  | acc => rfl
  | mem ea => exact State.readByte_writeByte_other s v fun e => h (by rw [e])

theorem storeOperand_canonical {s : State} (h : s.mem.wf = true) (p : Place) (v : Byte) :
    (storeOperand p v s).mem.wf = true := by
  cases p with
  | imm w => exact h
  | acc => exact h
  | mem ea => exact Memory.wf_write h ea v

/-- The page-cross penalty is at most one cycle (R114). -/
theorem penaltyCycles_le_one (p : Penalty) (cross : Bool) : penaltyCycles p cross ≤ 1 := by
  cases p <;> cases cross <;> decide

@[simp] theorem penaltyCycles_none (cross : Bool) : penaltyCycles .none cross = 0 := rfl

theorem readForm_eq (f : Byte → State → State) (o : Operand) (base : Nat) (p : Penalty) (s : State) :
    readForm f o base p s = .next (((f (loadOperand (placeOf o s) s) s).setPC (s.PC + operandLength o)).addCycles
      (base + penaltyCycles p (crosses o s))) := rfl

theorem storeForm_eq (v : Byte) (o : Operand) (base : Nat) (s : State) :
    storeForm v o base s =
      .next (((storeOperand (placeOf o s) v s).setPC (s.PC + operandLength o)).addCycles base) := rfl

theorem modifyForm_eq (f : Byte → Byte) (g : Byte → Byte → State → State) (o : Operand) (base : Nat) (s : State) :
    modifyForm f g o base s =
      .next (((g (loadOperand (placeOf o s) s) (f (loadOperand (placeOf o s) s))
        (storeOperand (placeOf o s) (f (loadOperand (placeOf o s) s)) s)).setPC (s.PC + operandLength o)).addCycles base) :=
  rfl

theorem impliedForm_eq (f : State → State) (base : Nat) (s : State) :
    impliedForm f base s = .next (((f s).setPC (s.PC + 1)).addCycles base) := rfl

theorem branchOn_taken (b1 : Byte) (base : Nat) (s : State) :
    branchOn true b1 base s = .next ((s.setPC (branchTarget b1 s)).addCycles
      (base + (1 + bitNat (pageCross (branchNext s) (branchTarget b1 s))))) := rfl

theorem branchOn_notTaken (b1 : Byte) (base : Nat) (s : State) :
    branchOn false b1 base s = .next ((s.setPC (branchNext s)).addCycles base) := rfl

end Sys2Proof.Machine
end

