-- ==== Sys2Proof/Laws/Exec.lean ====
section
/-! SUPPORT. Each instruction's meaning as its shared shape, and what an instruction can do at all, said once: it has one of
eleven shapes, whose parts write only the fields named. Invariants of `exec` and `step` are proved from the shapes. -/

namespace Sys2Proof.Machine

@[simp] theorem exec_ldaImm (b1 : Byte) (s : State) : exec (.ldaImm b1) s = readForm loadA (.imm b1) 2 .none s := rfl
@[simp] theorem exec_ldaZp (b1 : Byte) (s : State) : exec (.ldaZp b1) s = readForm loadA (.zp b1) 3 .none s := rfl
@[simp] theorem exec_ldaZpX (b1 : Byte) (s : State) : exec (.ldaZpX b1) s = readForm loadA (.zpX b1) 4 .none s := rfl
@[simp] theorem exec_ldaAbs (w : Word) (s : State) : exec (.ldaAbs w) s = readForm loadA (.abs w) 4 .none s := rfl
@[simp] theorem exec_ldaAbsX (w : Word) (s : State) : exec (.ldaAbsX w) s = readForm loadA (.absX w) 4 .pageCross s := rfl
@[simp] theorem exec_ldaAbsY (w : Word) (s : State) : exec (.ldaAbsY w) s = readForm loadA (.absY w) 4 .pageCross s := rfl
@[simp] theorem exec_ldaIndX (b1 : Byte) (s : State) : exec (.ldaIndX b1) s = readForm loadA (.indX b1) 6 .none s := rfl
@[simp] theorem exec_ldaIndY (b1 : Byte) (s : State) : exec (.ldaIndY b1) s = readForm loadA (.indY b1) 5 .pageCross s := rfl
@[simp] theorem exec_ldxImm (b1 : Byte) (s : State) : exec (.ldxImm b1) s = readForm loadX (.imm b1) 2 .none s := rfl
@[simp] theorem exec_ldxZp (b1 : Byte) (s : State) : exec (.ldxZp b1) s = readForm loadX (.zp b1) 3 .none s := rfl
@[simp] theorem exec_ldxZpY (b1 : Byte) (s : State) : exec (.ldxZpY b1) s = readForm loadX (.zpY b1) 4 .none s := rfl
@[simp] theorem exec_ldxAbs (w : Word) (s : State) : exec (.ldxAbs w) s = readForm loadX (.abs w) 4 .none s := rfl
@[simp] theorem exec_ldxAbsY (w : Word) (s : State) : exec (.ldxAbsY w) s = readForm loadX (.absY w) 4 .pageCross s := rfl
@[simp] theorem exec_ldyImm (b1 : Byte) (s : State) : exec (.ldyImm b1) s = readForm loadY (.imm b1) 2 .none s := rfl
@[simp] theorem exec_ldyZp (b1 : Byte) (s : State) : exec (.ldyZp b1) s = readForm loadY (.zp b1) 3 .none s := rfl
@[simp] theorem exec_ldyZpX (b1 : Byte) (s : State) : exec (.ldyZpX b1) s = readForm loadY (.zpX b1) 4 .none s := rfl
@[simp] theorem exec_ldyAbs (w : Word) (s : State) : exec (.ldyAbs w) s = readForm loadY (.abs w) 4 .none s := rfl
@[simp] theorem exec_ldyAbsX (w : Word) (s : State) : exec (.ldyAbsX w) s = readForm loadY (.absX w) 4 .pageCross s := rfl
@[simp] theorem exec_staZp (b1 : Byte) (s : State) : exec (.staZp b1) s = storeForm s.A (.zp b1) 3 s := rfl
@[simp] theorem exec_staZpX (b1 : Byte) (s : State) : exec (.staZpX b1) s = storeForm s.A (.zpX b1) 4 s := rfl
@[simp] theorem exec_staAbs (w : Word) (s : State) : exec (.staAbs w) s = storeForm s.A (.abs w) 4 s := rfl
@[simp] theorem exec_staAbsX (w : Word) (s : State) : exec (.staAbsX w) s = storeForm s.A (.absX w) 5 s := rfl
@[simp] theorem exec_staAbsY (w : Word) (s : State) : exec (.staAbsY w) s = storeForm s.A (.absY w) 5 s := rfl
@[simp] theorem exec_staIndX (b1 : Byte) (s : State) : exec (.staIndX b1) s = storeForm s.A (.indX b1) 6 s := rfl
@[simp] theorem exec_staIndY (b1 : Byte) (s : State) : exec (.staIndY b1) s = storeForm s.A (.indY b1) 6 s := rfl
@[simp] theorem exec_stxZp (b1 : Byte) (s : State) : exec (.stxZp b1) s = storeForm s.X (.zp b1) 3 s := rfl
@[simp] theorem exec_stxZpY (b1 : Byte) (s : State) : exec (.stxZpY b1) s = storeForm s.X (.zpY b1) 4 s := rfl
@[simp] theorem exec_stxAbs (w : Word) (s : State) : exec (.stxAbs w) s = storeForm s.X (.abs w) 4 s := rfl
@[simp] theorem exec_styZp (b1 : Byte) (s : State) : exec (.styZp b1) s = storeForm s.Y (.zp b1) 3 s := rfl
@[simp] theorem exec_styZpX (b1 : Byte) (s : State) : exec (.styZpX b1) s = storeForm s.Y (.zpX b1) 4 s := rfl
@[simp] theorem exec_styAbs (w : Word) (s : State) : exec (.styAbs w) s = storeForm s.Y (.abs w) 4 s := rfl
@[simp] theorem exec_tax (s : State) : exec .tax s = impliedForm (fun s => loadX s.A s) 2 s := rfl
@[simp] theorem exec_tay (s : State) : exec .tay s = impliedForm (fun s => loadY s.A s) 2 s := rfl
@[simp] theorem exec_txa (s : State) : exec .txa s = impliedForm (fun s => loadA s.X s) 2 s := rfl
@[simp] theorem exec_tya (s : State) : exec .tya s = impliedForm (fun s => loadA s.Y s) 2 s := rfl
@[simp] theorem exec_adcImm (b1 : Byte) (s : State) : exec (.adcImm b1) s = readForm adcA (.imm b1) 2 .none s := rfl
@[simp] theorem exec_adcZp (b1 : Byte) (s : State) : exec (.adcZp b1) s = readForm adcA (.zp b1) 3 .none s := rfl
@[simp] theorem exec_adcZpX (b1 : Byte) (s : State) : exec (.adcZpX b1) s = readForm adcA (.zpX b1) 4 .none s := rfl
@[simp] theorem exec_adcAbs (w : Word) (s : State) : exec (.adcAbs w) s = readForm adcA (.abs w) 4 .none s := rfl
@[simp] theorem exec_adcAbsX (w : Word) (s : State) : exec (.adcAbsX w) s = readForm adcA (.absX w) 4 .pageCross s := rfl
@[simp] theorem exec_adcAbsY (w : Word) (s : State) : exec (.adcAbsY w) s = readForm adcA (.absY w) 4 .pageCross s := rfl
@[simp] theorem exec_adcIndX (b1 : Byte) (s : State) : exec (.adcIndX b1) s = readForm adcA (.indX b1) 6 .none s := rfl
@[simp] theorem exec_adcIndY (b1 : Byte) (s : State) : exec (.adcIndY b1) s = readForm adcA (.indY b1) 5 .pageCross s := rfl
@[simp] theorem exec_sbcImm (b1 : Byte) (s : State) : exec (.sbcImm b1) s = readForm sbcA (.imm b1) 2 .none s := rfl
@[simp] theorem exec_sbcZp (b1 : Byte) (s : State) : exec (.sbcZp b1) s = readForm sbcA (.zp b1) 3 .none s := rfl
@[simp] theorem exec_sbcZpX (b1 : Byte) (s : State) : exec (.sbcZpX b1) s = readForm sbcA (.zpX b1) 4 .none s := rfl
@[simp] theorem exec_sbcAbs (w : Word) (s : State) : exec (.sbcAbs w) s = readForm sbcA (.abs w) 4 .none s := rfl
@[simp] theorem exec_sbcAbsX (w : Word) (s : State) : exec (.sbcAbsX w) s = readForm sbcA (.absX w) 4 .pageCross s := rfl
@[simp] theorem exec_sbcAbsY (w : Word) (s : State) : exec (.sbcAbsY w) s = readForm sbcA (.absY w) 4 .pageCross s := rfl
@[simp] theorem exec_sbcIndX (b1 : Byte) (s : State) : exec (.sbcIndX b1) s = readForm sbcA (.indX b1) 6 .none s := rfl
@[simp] theorem exec_sbcIndY (b1 : Byte) (s : State) : exec (.sbcIndY b1) s = readForm sbcA (.indY b1) 5 .pageCross s := rfl
@[simp] theorem exec_cmpImm (b1 : Byte) (s : State) : exec (.cmpImm b1) s = readForm cmpA (.imm b1) 2 .none s := rfl
@[simp] theorem exec_cmpZp (b1 : Byte) (s : State) : exec (.cmpZp b1) s = readForm cmpA (.zp b1) 3 .none s := rfl
@[simp] theorem exec_cmpZpX (b1 : Byte) (s : State) : exec (.cmpZpX b1) s = readForm cmpA (.zpX b1) 4 .none s := rfl
@[simp] theorem exec_cmpAbs (w : Word) (s : State) : exec (.cmpAbs w) s = readForm cmpA (.abs w) 4 .none s := rfl
@[simp] theorem exec_cmpAbsX (w : Word) (s : State) : exec (.cmpAbsX w) s = readForm cmpA (.absX w) 4 .pageCross s := rfl
@[simp] theorem exec_cmpAbsY (w : Word) (s : State) : exec (.cmpAbsY w) s = readForm cmpA (.absY w) 4 .pageCross s := rfl
@[simp] theorem exec_cmpIndX (b1 : Byte) (s : State) : exec (.cmpIndX b1) s = readForm cmpA (.indX b1) 6 .none s := rfl
@[simp] theorem exec_cmpIndY (b1 : Byte) (s : State) : exec (.cmpIndY b1) s = readForm cmpA (.indY b1) 5 .pageCross s := rfl
@[simp] theorem exec_cpxImm (b1 : Byte) (s : State) : exec (.cpxImm b1) s = readForm cmpX (.imm b1) 2 .none s := rfl
@[simp] theorem exec_cpxZp (b1 : Byte) (s : State) : exec (.cpxZp b1) s = readForm cmpX (.zp b1) 3 .none s := rfl
@[simp] theorem exec_cpxAbs (w : Word) (s : State) : exec (.cpxAbs w) s = readForm cmpX (.abs w) 4 .none s := rfl
@[simp] theorem exec_cpyImm (b1 : Byte) (s : State) : exec (.cpyImm b1) s = readForm cmpY (.imm b1) 2 .none s := rfl
@[simp] theorem exec_cpyZp (b1 : Byte) (s : State) : exec (.cpyZp b1) s = readForm cmpY (.zp b1) 3 .none s := rfl
@[simp] theorem exec_cpyAbs (w : Word) (s : State) : exec (.cpyAbs w) s = readForm cmpY (.abs w) 4 .none s := rfl
@[simp] theorem exec_incZp (b1 : Byte) (s : State) : exec (.incZp b1) s = incForm (.zp b1) 5 s := rfl
@[simp] theorem exec_incZpX (b1 : Byte) (s : State) : exec (.incZpX b1) s = incForm (.zpX b1) 6 s := rfl
@[simp] theorem exec_incAbs (w : Word) (s : State) : exec (.incAbs w) s = incForm (.abs w) 6 s := rfl
@[simp] theorem exec_incAbsX (w : Word) (s : State) : exec (.incAbsX w) s = incForm (.absX w) 7 s := rfl
@[simp] theorem exec_inx (s : State) : exec .inx s = impliedForm (moveX 1) 2 s := rfl
@[simp] theorem exec_iny (s : State) : exec .iny s = impliedForm (moveY 1) 2 s := rfl
@[simp] theorem exec_decZp (b1 : Byte) (s : State) : exec (.decZp b1) s = decForm (.zp b1) 5 s := rfl
@[simp] theorem exec_decZpX (b1 : Byte) (s : State) : exec (.decZpX b1) s = decForm (.zpX b1) 6 s := rfl
@[simp] theorem exec_decAbs (w : Word) (s : State) : exec (.decAbs w) s = decForm (.abs w) 6 s := rfl
@[simp] theorem exec_decAbsX (w : Word) (s : State) : exec (.decAbsX w) s = decForm (.absX w) 7 s := rfl
@[simp] theorem exec_dex (s : State) : exec .dex s = impliedForm (moveX (-1)) 2 s := rfl
@[simp] theorem exec_dey (s : State) : exec .dey s = impliedForm (moveY (-1)) 2 s := rfl
@[simp] theorem exec_andImm (b1 : Byte) (s : State) : exec (.andImm b1) s = readForm andA (.imm b1) 2 .none s := rfl
@[simp] theorem exec_andZp (b1 : Byte) (s : State) : exec (.andZp b1) s = readForm andA (.zp b1) 3 .none s := rfl
@[simp] theorem exec_andZpX (b1 : Byte) (s : State) : exec (.andZpX b1) s = readForm andA (.zpX b1) 4 .none s := rfl
@[simp] theorem exec_andAbs (w : Word) (s : State) : exec (.andAbs w) s = readForm andA (.abs w) 4 .none s := rfl
@[simp] theorem exec_andAbsX (w : Word) (s : State) : exec (.andAbsX w) s = readForm andA (.absX w) 4 .pageCross s := rfl
@[simp] theorem exec_andAbsY (w : Word) (s : State) : exec (.andAbsY w) s = readForm andA (.absY w) 4 .pageCross s := rfl
@[simp] theorem exec_andIndX (b1 : Byte) (s : State) : exec (.andIndX b1) s = readForm andA (.indX b1) 6 .none s := rfl
@[simp] theorem exec_andIndY (b1 : Byte) (s : State) : exec (.andIndY b1) s = readForm andA (.indY b1) 5 .pageCross s := rfl
@[simp] theorem exec_oraImm (b1 : Byte) (s : State) : exec (.oraImm b1) s = readForm oraA (.imm b1) 2 .none s := rfl
@[simp] theorem exec_oraZp (b1 : Byte) (s : State) : exec (.oraZp b1) s = readForm oraA (.zp b1) 3 .none s := rfl
@[simp] theorem exec_oraZpX (b1 : Byte) (s : State) : exec (.oraZpX b1) s = readForm oraA (.zpX b1) 4 .none s := rfl
@[simp] theorem exec_oraAbs (w : Word) (s : State) : exec (.oraAbs w) s = readForm oraA (.abs w) 4 .none s := rfl
@[simp] theorem exec_oraAbsX (w : Word) (s : State) : exec (.oraAbsX w) s = readForm oraA (.absX w) 4 .pageCross s := rfl
@[simp] theorem exec_oraAbsY (w : Word) (s : State) : exec (.oraAbsY w) s = readForm oraA (.absY w) 4 .pageCross s := rfl
@[simp] theorem exec_oraIndX (b1 : Byte) (s : State) : exec (.oraIndX b1) s = readForm oraA (.indX b1) 6 .none s := rfl
@[simp] theorem exec_oraIndY (b1 : Byte) (s : State) : exec (.oraIndY b1) s = readForm oraA (.indY b1) 5 .pageCross s := rfl
@[simp] theorem exec_eorImm (b1 : Byte) (s : State) : exec (.eorImm b1) s = readForm eorA (.imm b1) 2 .none s := rfl
@[simp] theorem exec_eorZp (b1 : Byte) (s : State) : exec (.eorZp b1) s = readForm eorA (.zp b1) 3 .none s := rfl
@[simp] theorem exec_eorZpX (b1 : Byte) (s : State) : exec (.eorZpX b1) s = readForm eorA (.zpX b1) 4 .none s := rfl
@[simp] theorem exec_eorAbs (w : Word) (s : State) : exec (.eorAbs w) s = readForm eorA (.abs w) 4 .none s := rfl
@[simp] theorem exec_eorAbsX (w : Word) (s : State) : exec (.eorAbsX w) s = readForm eorA (.absX w) 4 .pageCross s := rfl
@[simp] theorem exec_eorAbsY (w : Word) (s : State) : exec (.eorAbsY w) s = readForm eorA (.absY w) 4 .pageCross s := rfl
@[simp] theorem exec_eorIndX (b1 : Byte) (s : State) : exec (.eorIndX b1) s = readForm eorA (.indX b1) 6 .none s := rfl
@[simp] theorem exec_eorIndY (b1 : Byte) (s : State) : exec (.eorIndY b1) s = readForm eorA (.indY b1) 5 .pageCross s := rfl
@[simp] theorem exec_bitZp (b1 : Byte) (s : State) : exec (.bitZp b1) s = readForm bitTest (.zp b1) 3 .none s := rfl
@[simp] theorem exec_bitAbs (w : Word) (s : State) : exec (.bitAbs w) s = readForm bitTest (.abs w) 4 .none s := rfl
@[simp] theorem exec_aslAcc (s : State) : exec .aslAcc s = aslForm .acc 2 s := rfl
@[simp] theorem exec_aslZp (b1 : Byte) (s : State) : exec (.aslZp b1) s = aslForm (.zp b1) 5 s := rfl
@[simp] theorem exec_aslZpX (b1 : Byte) (s : State) : exec (.aslZpX b1) s = aslForm (.zpX b1) 6 s := rfl
@[simp] theorem exec_aslAbs (w : Word) (s : State) : exec (.aslAbs w) s = aslForm (.abs w) 6 s := rfl
@[simp] theorem exec_aslAbsX (w : Word) (s : State) : exec (.aslAbsX w) s = aslForm (.absX w) 7 s := rfl
@[simp] theorem exec_lsrAcc (s : State) : exec .lsrAcc s = lsrForm .acc 2 s := rfl
@[simp] theorem exec_lsrZp (b1 : Byte) (s : State) : exec (.lsrZp b1) s = lsrForm (.zp b1) 5 s := rfl
@[simp] theorem exec_lsrZpX (b1 : Byte) (s : State) : exec (.lsrZpX b1) s = lsrForm (.zpX b1) 6 s := rfl
@[simp] theorem exec_lsrAbs (w : Word) (s : State) : exec (.lsrAbs w) s = lsrForm (.abs w) 6 s := rfl
@[simp] theorem exec_lsrAbsX (w : Word) (s : State) : exec (.lsrAbsX w) s = lsrForm (.absX w) 7 s := rfl
@[simp] theorem exec_rolAcc (s : State) : exec .rolAcc s = rolForm .acc 2 s := rfl
@[simp] theorem exec_rolZp (b1 : Byte) (s : State) : exec (.rolZp b1) s = rolForm (.zp b1) 5 s := rfl
@[simp] theorem exec_rolZpX (b1 : Byte) (s : State) : exec (.rolZpX b1) s = rolForm (.zpX b1) 6 s := rfl
@[simp] theorem exec_rolAbs (w : Word) (s : State) : exec (.rolAbs w) s = rolForm (.abs w) 6 s := rfl
@[simp] theorem exec_rolAbsX (w : Word) (s : State) : exec (.rolAbsX w) s = rolForm (.absX w) 7 s := rfl
@[simp] theorem exec_rorAcc (s : State) : exec .rorAcc s = rorForm .acc 2 s := rfl
@[simp] theorem exec_rorZp (b1 : Byte) (s : State) : exec (.rorZp b1) s = rorForm (.zp b1) 5 s := rfl
@[simp] theorem exec_rorZpX (b1 : Byte) (s : State) : exec (.rorZpX b1) s = rorForm (.zpX b1) 6 s := rfl
@[simp] theorem exec_rorAbs (w : Word) (s : State) : exec (.rorAbs w) s = rorForm (.abs w) 6 s := rfl
@[simp] theorem exec_rorAbsX (w : Word) (s : State) : exec (.rorAbsX w) s = rorForm (.absX w) 7 s := rfl
@[simp] theorem exec_bcc (b1 : Byte) (s : State) : exec (.bcc b1) s = branchOn (!s.C) b1 2 s := rfl
@[simp] theorem exec_bcs (b1 : Byte) (s : State) : exec (.bcs b1) s = branchOn s.C b1 2 s := rfl
@[simp] theorem exec_beq (b1 : Byte) (s : State) : exec (.beq b1) s = branchOn s.Z b1 2 s := rfl
@[simp] theorem exec_bne (b1 : Byte) (s : State) : exec (.bne b1) s = branchOn (!s.Z) b1 2 s := rfl
@[simp] theorem exec_bmi (b1 : Byte) (s : State) : exec (.bmi b1) s = branchOn s.N b1 2 s := rfl
@[simp] theorem exec_bpl (b1 : Byte) (s : State) : exec (.bpl b1) s = branchOn (!s.N) b1 2 s := rfl
@[simp] theorem exec_bvc (b1 : Byte) (s : State) : exec (.bvc b1) s = branchOn (!s.V) b1 2 s := rfl
@[simp] theorem exec_bvs (b1 : Byte) (s : State) : exec (.bvs b1) s = branchOn s.V b1 2 s := rfl
@[simp] theorem exec_jmpAbs (w : Word) (s : State) : exec (.jmpAbs w) s = finish w 3 s := rfl
@[simp] theorem exec_jmpInd (w : Word) (s : State) : exec (.jmpInd w) s = finish (indirectTarget w s) 5 s := rfl
@[simp] theorem exec_jsr (w : Word) (s : State) : exec (.jsr w) s = finish w 6 (s.push16 (s.PC + 2)) := rfl
@[simp] theorem exec_rts (s : State) : exec .rts s = finish (s.top16 + 1) 6 s.drop16 := rfl
@[simp] theorem exec_pha (s : State) : exec .pha s = impliedForm (fun s => s.push8 s.A) 3 s := rfl
@[simp] theorem exec_php (s : State) : exec .php s = impliedForm (fun s => s.push8 (packP s)) 3 s := rfl
@[simp] theorem exec_pla (s : State) : exec .pla s = impliedForm (fun s => loadA s.top8 s.drop8) 4 s := rfl
@[simp] theorem exec_plp (s : State) : exec .plp s = impliedForm (fun s => unpackP s.drop8 s.top8) 4 s := rfl
@[simp] theorem exec_tsx (s : State) : exec .tsx s = impliedForm (fun s => loadX s.SP s) 2 s := rfl
@[simp] theorem exec_txs (s : State) : exec .txs s = impliedForm (fun s => s.setSP s.X) 2 s := rfl
@[simp] theorem exec_clc (s : State) : exec .clc s = impliedForm (fun s => s.setC false) 2 s := rfl
@[simp] theorem exec_sec (s : State) : exec .sec s = impliedForm (fun s => s.setC true) 2 s := rfl
@[simp] theorem exec_cli (s : State) : exec .cli s = impliedForm (fun s => s.setI false) 2 s := rfl
@[simp] theorem exec_sei (s : State) : exec .sei s = impliedForm (fun s => s.setI true) 2 s := rfl
@[simp] theorem exec_cld (s : State) : exec .cld s = impliedForm (fun s => s.setD false) 2 s := rfl
@[simp] theorem exec_sed (s : State) : exec .sed s = impliedForm (fun s => s.setD true) 2 s := rfl
@[simp] theorem exec_clv (s : State) : exec .clv s = impliedForm (fun s => s.setV false) 2 s := rfl
@[simp] theorem exec_nop (s : State) : exec .nop s = impliedForm (fun s => s) 2 s := rfl
@[simp] theorem exec_brk (s : State) : exec .brk s = takeTrap 7 s := rfl
@[simp] theorem exec_rti (s : State) : exec .rti s = returnFromTrap 6 s := rfl

/-- An update that leaves SP, PC, `cycles`, `mem` and `fault` alone: it writes A, X, Y and flags at most. -/
structure Quiet (s t : State) : Prop where
  SP : t.SP = s.SP
  PC : t.PC = s.PC
  cycles : t.cycles = s.cycles
  mem : t.mem = s.mem
  fault : t.fault = s.fault

/-- An update that leaves PC, `cycles`, `mem` and `fault` alone; SP may move too. -/
structure QuietButSP (s t : State) : Prop where
  PC : t.PC = s.PC
  cycles : t.cycles = s.cycles
  mem : t.mem = s.mem
  fault : t.fault = s.fault

/-- The shapes an instruction's answer can have, with the range of its base cost (R95, R96). -/
inductive ExecShape (s : State) : Result → Prop where
  | read (f : Byte → State → State) (o : Operand) (base : Nat) (p : Penalty) (hf : ∀ v t, Quiet t (f v t))
      (h2 : 2 ≤ base) (h6 : base ≤ 6) : ExecShape s (readForm f o base p s)
  | store (v : Byte) (o : Operand) (base : Nat) (h2 : 2 ≤ base) (h7 : base ≤ 7) : ExecShape s (storeForm v o base s)
  | modify (f : Byte → Byte) (g : Byte → Byte → State → State) (o : Operand) (base : Nat)
      (hg : ∀ v w t, Quiet t (g v w t)) (h2 : 2 ≤ base) (h7 : base ≤ 7) : ExecShape s (modifyForm f g o base s)
  | implied (f : State → State) (base : Nat) (hf : ∀ t, QuietButSP t (f t)) (h2 : 2 ≤ base) (h7 : base ≤ 7) :
      ExecShape s (impliedForm f base s)
  | push (v : State → Byte) (base : Nat) (h2 : 2 ≤ base) (h7 : base ≤ 7) :
      ExecShape s (impliedForm (fun s => s.push8 (v s)) base s)
  | branch (c : Bool) (b1 : Byte) : ExecShape s (branchOn c b1 2 s)
  | jump (w : Word) (base : Nat) (h2 : 2 ≤ base) (h7 : base ≤ 7) : ExecShape s (finish w base s)
  | call (w : Word) : ExecShape s (finish w 6 (s.push16 (s.PC + 2)))
  | ret : ExecShape s (finish (s.top16 + 1) 6 s.drop16)
  | trap : ExecShape s (takeTrap 7 s)
  | trapReturn : ExecShape s (returnFromTrap 6 s)

theorem loadA_quiet (v : Byte) (s : State) : Quiet s (loadA v s) := by constructor <;> simp [loadA]
theorem loadX_quiet (v : Byte) (s : State) : Quiet s (loadX v s) := by constructor <;> simp [loadX]
theorem loadY_quiet (v : Byte) (s : State) : Quiet s (loadY v s) := by constructor <;> simp [loadY]
theorem adcA_quiet (v : Byte) (s : State) : Quiet s (adcA v s) := by constructor <;> simp [adcA, addToA]
theorem sbcA_quiet (v : Byte) (s : State) : Quiet s (sbcA v s) := by constructor <;> simp [sbcA, addToA]
theorem cmpA_quiet (v : Byte) (s : State) : Quiet s (cmpA v s) := by constructor <;> simp [cmpA]
theorem cmpX_quiet (v : Byte) (s : State) : Quiet s (cmpX v s) := by constructor <;> simp [cmpX]
theorem cmpY_quiet (v : Byte) (s : State) : Quiet s (cmpY v s) := by constructor <;> simp [cmpY]
theorem andA_quiet (v : Byte) (s : State) : Quiet s (andA v s) := loadA_quiet _ s
theorem oraA_quiet (v : Byte) (s : State) : Quiet s (oraA v s) := loadA_quiet _ s
theorem eorA_quiet (v : Byte) (s : State) : Quiet s (eorA v s) := loadA_quiet _ s
theorem bitTest_quiet (v : Byte) (s : State) : Quiet s (bitTest v s) := by constructor <;> simp
theorem setZN_quiet (v : Byte) (s : State) : Quiet s (s.setZN v) := by constructor <;> simp
theorem leftFlags_quiet (v w : Byte) (s : State) : Quiet s (leftFlags v w s) := by constructor <;> simp [leftFlags]
theorem rightFlags_quiet (v w : Byte) (s : State) : Quiet s (rightFlags v w s) := by constructor <;> simp [rightFlags]

/-- What an instruction can do: its answer has one of the shapes. -/
theorem exec_shape (i : Instr) (s : State) : ExecShape s (exec i s) := by
  cases i with
  | ldaImm b1 => rw [exec_ldaImm]; exact .read _ _ _ _ loadA_quiet (by decide) (by decide)
  | ldaZp b1 => rw [exec_ldaZp]; exact .read _ _ _ _ loadA_quiet (by decide) (by decide)
  | ldaZpX b1 => rw [exec_ldaZpX]; exact .read _ _ _ _ loadA_quiet (by decide) (by decide)
  | ldaAbs w => rw [exec_ldaAbs]; exact .read _ _ _ _ loadA_quiet (by decide) (by decide)
  | ldaAbsX w => rw [exec_ldaAbsX]; exact .read _ _ _ _ loadA_quiet (by decide) (by decide)
  | ldaAbsY w => rw [exec_ldaAbsY]; exact .read _ _ _ _ loadA_quiet (by decide) (by decide)
  | ldaIndX b1 => rw [exec_ldaIndX]; exact .read _ _ _ _ loadA_quiet (by decide) (by decide)
  | ldaIndY b1 => rw [exec_ldaIndY]; exact .read _ _ _ _ loadA_quiet (by decide) (by decide)
  | ldxImm b1 => rw [exec_ldxImm]; exact .read _ _ _ _ loadX_quiet (by decide) (by decide)
  | ldxZp b1 => rw [exec_ldxZp]; exact .read _ _ _ _ loadX_quiet (by decide) (by decide)
  | ldxZpY b1 => rw [exec_ldxZpY]; exact .read _ _ _ _ loadX_quiet (by decide) (by decide)
  | ldxAbs w => rw [exec_ldxAbs]; exact .read _ _ _ _ loadX_quiet (by decide) (by decide)
  | ldxAbsY w => rw [exec_ldxAbsY]; exact .read _ _ _ _ loadX_quiet (by decide) (by decide)
  | ldyImm b1 => rw [exec_ldyImm]; exact .read _ _ _ _ loadY_quiet (by decide) (by decide)
  | ldyZp b1 => rw [exec_ldyZp]; exact .read _ _ _ _ loadY_quiet (by decide) (by decide)
  | ldyZpX b1 => rw [exec_ldyZpX]; exact .read _ _ _ _ loadY_quiet (by decide) (by decide)
  | ldyAbs w => rw [exec_ldyAbs]; exact .read _ _ _ _ loadY_quiet (by decide) (by decide)
  | ldyAbsX w => rw [exec_ldyAbsX]; exact .read _ _ _ _ loadY_quiet (by decide) (by decide)
  | staZp b1 => rw [exec_staZp]; exact .store _ _ _ (by decide) (by decide)
  | staZpX b1 => rw [exec_staZpX]; exact .store _ _ _ (by decide) (by decide)
  | staAbs w => rw [exec_staAbs]; exact .store _ _ _ (by decide) (by decide)
  | staAbsX w => rw [exec_staAbsX]; exact .store _ _ _ (by decide) (by decide)
  | staAbsY w => rw [exec_staAbsY]; exact .store _ _ _ (by decide) (by decide)
  | staIndX b1 => rw [exec_staIndX]; exact .store _ _ _ (by decide) (by decide)
  | staIndY b1 => rw [exec_staIndY]; exact .store _ _ _ (by decide) (by decide)
  | stxZp b1 => rw [exec_stxZp]; exact .store _ _ _ (by decide) (by decide)
  | stxZpY b1 => rw [exec_stxZpY]; exact .store _ _ _ (by decide) (by decide)
  | stxAbs w => rw [exec_stxAbs]; exact .store _ _ _ (by decide) (by decide)
  | styZp b1 => rw [exec_styZp]; exact .store _ _ _ (by decide) (by decide)
  | styZpX b1 => rw [exec_styZpX]; exact .store _ _ _ (by decide) (by decide)
  | styAbs w => rw [exec_styAbs]; exact .store _ _ _ (by decide) (by decide)
  | tax => rw [exec_tax]; exact .implied _ _ (fun t => by constructor <;> simp [loadX]) (by decide) (by decide)
  | tay => rw [exec_tay]; exact .implied _ _ (fun t => by constructor <;> simp [loadY]) (by decide) (by decide)
  | txa => rw [exec_txa]; exact .implied _ _ (fun t => by constructor <;> simp [loadA]) (by decide) (by decide)
  | tya => rw [exec_tya]; exact .implied _ _ (fun t => by constructor <;> simp [loadA]) (by decide) (by decide)
  | adcImm b1 => rw [exec_adcImm]; exact .read _ _ _ _ adcA_quiet (by decide) (by decide)
  | adcZp b1 => rw [exec_adcZp]; exact .read _ _ _ _ adcA_quiet (by decide) (by decide)
  | adcZpX b1 => rw [exec_adcZpX]; exact .read _ _ _ _ adcA_quiet (by decide) (by decide)
  | adcAbs w => rw [exec_adcAbs]; exact .read _ _ _ _ adcA_quiet (by decide) (by decide)
  | adcAbsX w => rw [exec_adcAbsX]; exact .read _ _ _ _ adcA_quiet (by decide) (by decide)
  | adcAbsY w => rw [exec_adcAbsY]; exact .read _ _ _ _ adcA_quiet (by decide) (by decide)
  | adcIndX b1 => rw [exec_adcIndX]; exact .read _ _ _ _ adcA_quiet (by decide) (by decide)
  | adcIndY b1 => rw [exec_adcIndY]; exact .read _ _ _ _ adcA_quiet (by decide) (by decide)
  | sbcImm b1 => rw [exec_sbcImm]; exact .read _ _ _ _ sbcA_quiet (by decide) (by decide)
  | sbcZp b1 => rw [exec_sbcZp]; exact .read _ _ _ _ sbcA_quiet (by decide) (by decide)
  | sbcZpX b1 => rw [exec_sbcZpX]; exact .read _ _ _ _ sbcA_quiet (by decide) (by decide)
  | sbcAbs w => rw [exec_sbcAbs]; exact .read _ _ _ _ sbcA_quiet (by decide) (by decide)
  | sbcAbsX w => rw [exec_sbcAbsX]; exact .read _ _ _ _ sbcA_quiet (by decide) (by decide)
  | sbcAbsY w => rw [exec_sbcAbsY]; exact .read _ _ _ _ sbcA_quiet (by decide) (by decide)
  | sbcIndX b1 => rw [exec_sbcIndX]; exact .read _ _ _ _ sbcA_quiet (by decide) (by decide)
  | sbcIndY b1 => rw [exec_sbcIndY]; exact .read _ _ _ _ sbcA_quiet (by decide) (by decide)
  | cmpImm b1 => rw [exec_cmpImm]; exact .read _ _ _ _ cmpA_quiet (by decide) (by decide)
  | cmpZp b1 => rw [exec_cmpZp]; exact .read _ _ _ _ cmpA_quiet (by decide) (by decide)
  | cmpZpX b1 => rw [exec_cmpZpX]; exact .read _ _ _ _ cmpA_quiet (by decide) (by decide)
  | cmpAbs w => rw [exec_cmpAbs]; exact .read _ _ _ _ cmpA_quiet (by decide) (by decide)
  | cmpAbsX w => rw [exec_cmpAbsX]; exact .read _ _ _ _ cmpA_quiet (by decide) (by decide)
  | cmpAbsY w => rw [exec_cmpAbsY]; exact .read _ _ _ _ cmpA_quiet (by decide) (by decide)
  | cmpIndX b1 => rw [exec_cmpIndX]; exact .read _ _ _ _ cmpA_quiet (by decide) (by decide)
  | cmpIndY b1 => rw [exec_cmpIndY]; exact .read _ _ _ _ cmpA_quiet (by decide) (by decide)
  | cpxImm b1 => rw [exec_cpxImm]; exact .read _ _ _ _ cmpX_quiet (by decide) (by decide)
  | cpxZp b1 => rw [exec_cpxZp]; exact .read _ _ _ _ cmpX_quiet (by decide) (by decide)
  | cpxAbs w => rw [exec_cpxAbs]; exact .read _ _ _ _ cmpX_quiet (by decide) (by decide)
  | cpyImm b1 => rw [exec_cpyImm]; exact .read _ _ _ _ cmpY_quiet (by decide) (by decide)
  | cpyZp b1 => rw [exec_cpyZp]; exact .read _ _ _ _ cmpY_quiet (by decide) (by decide)
  | cpyAbs w => rw [exec_cpyAbs]; exact .read _ _ _ _ cmpY_quiet (by decide) (by decide)
  | incZp b1 => rw [exec_incZp, incForm]; exact .modify _ _ _ _ (fun _ => setZN_quiet) (by decide) (by decide)
  | incZpX b1 => rw [exec_incZpX, incForm]; exact .modify _ _ _ _ (fun _ => setZN_quiet) (by decide) (by decide)
  | incAbs w => rw [exec_incAbs, incForm]; exact .modify _ _ _ _ (fun _ => setZN_quiet) (by decide) (by decide)
  | incAbsX w => rw [exec_incAbsX, incForm]; exact .modify _ _ _ _ (fun _ => setZN_quiet) (by decide) (by decide)
  | inx => rw [exec_inx]; exact .implied _ _ (fun t => by constructor <;> simp [moveX]) (by decide) (by decide)
  | iny => rw [exec_iny]; exact .implied _ _ (fun t => by constructor <;> simp [moveY]) (by decide) (by decide)
  | decZp b1 => rw [exec_decZp, decForm]; exact .modify _ _ _ _ (fun _ => setZN_quiet) (by decide) (by decide)
  | decZpX b1 => rw [exec_decZpX, decForm]; exact .modify _ _ _ _ (fun _ => setZN_quiet) (by decide) (by decide)
  | decAbs w => rw [exec_decAbs, decForm]; exact .modify _ _ _ _ (fun _ => setZN_quiet) (by decide) (by decide)
  | decAbsX w => rw [exec_decAbsX, decForm]; exact .modify _ _ _ _ (fun _ => setZN_quiet) (by decide) (by decide)
  | dex => rw [exec_dex]; exact .implied _ _ (fun t => by constructor <;> simp [moveX]) (by decide) (by decide)
  | dey => rw [exec_dey]; exact .implied _ _ (fun t => by constructor <;> simp [moveY]) (by decide) (by decide)
  | andImm b1 => rw [exec_andImm]; exact .read _ _ _ _ andA_quiet (by decide) (by decide)
  | andZp b1 => rw [exec_andZp]; exact .read _ _ _ _ andA_quiet (by decide) (by decide)
  | andZpX b1 => rw [exec_andZpX]; exact .read _ _ _ _ andA_quiet (by decide) (by decide)
  | andAbs w => rw [exec_andAbs]; exact .read _ _ _ _ andA_quiet (by decide) (by decide)
  | andAbsX w => rw [exec_andAbsX]; exact .read _ _ _ _ andA_quiet (by decide) (by decide)
  | andAbsY w => rw [exec_andAbsY]; exact .read _ _ _ _ andA_quiet (by decide) (by decide)
  | andIndX b1 => rw [exec_andIndX]; exact .read _ _ _ _ andA_quiet (by decide) (by decide)
  | andIndY b1 => rw [exec_andIndY]; exact .read _ _ _ _ andA_quiet (by decide) (by decide)
  | oraImm b1 => rw [exec_oraImm]; exact .read _ _ _ _ oraA_quiet (by decide) (by decide)
  | oraZp b1 => rw [exec_oraZp]; exact .read _ _ _ _ oraA_quiet (by decide) (by decide)
  | oraZpX b1 => rw [exec_oraZpX]; exact .read _ _ _ _ oraA_quiet (by decide) (by decide)
  | oraAbs w => rw [exec_oraAbs]; exact .read _ _ _ _ oraA_quiet (by decide) (by decide)
  | oraAbsX w => rw [exec_oraAbsX]; exact .read _ _ _ _ oraA_quiet (by decide) (by decide)
  | oraAbsY w => rw [exec_oraAbsY]; exact .read _ _ _ _ oraA_quiet (by decide) (by decide)
  | oraIndX b1 => rw [exec_oraIndX]; exact .read _ _ _ _ oraA_quiet (by decide) (by decide)
  | oraIndY b1 => rw [exec_oraIndY]; exact .read _ _ _ _ oraA_quiet (by decide) (by decide)
  | eorImm b1 => rw [exec_eorImm]; exact .read _ _ _ _ eorA_quiet (by decide) (by decide)
  | eorZp b1 => rw [exec_eorZp]; exact .read _ _ _ _ eorA_quiet (by decide) (by decide)
  | eorZpX b1 => rw [exec_eorZpX]; exact .read _ _ _ _ eorA_quiet (by decide) (by decide)
  | eorAbs w => rw [exec_eorAbs]; exact .read _ _ _ _ eorA_quiet (by decide) (by decide)
  | eorAbsX w => rw [exec_eorAbsX]; exact .read _ _ _ _ eorA_quiet (by decide) (by decide)
  | eorAbsY w => rw [exec_eorAbsY]; exact .read _ _ _ _ eorA_quiet (by decide) (by decide)
  | eorIndX b1 => rw [exec_eorIndX]; exact .read _ _ _ _ eorA_quiet (by decide) (by decide)
  | eorIndY b1 => rw [exec_eorIndY]; exact .read _ _ _ _ eorA_quiet (by decide) (by decide)
  | bitZp b1 => rw [exec_bitZp]; exact .read _ _ _ _ bitTest_quiet (by decide) (by decide)
  | bitAbs w => rw [exec_bitAbs]; exact .read _ _ _ _ bitTest_quiet (by decide) (by decide)
  | aslAcc => rw [exec_aslAcc, aslForm]; exact .modify _ _ _ _ leftFlags_quiet (by decide) (by decide)
  | aslZp b1 => rw [exec_aslZp, aslForm]; exact .modify _ _ _ _ leftFlags_quiet (by decide) (by decide)
  | aslZpX b1 => rw [exec_aslZpX, aslForm]; exact .modify _ _ _ _ leftFlags_quiet (by decide) (by decide)
  | aslAbs w => rw [exec_aslAbs, aslForm]; exact .modify _ _ _ _ leftFlags_quiet (by decide) (by decide)
  | aslAbsX w => rw [exec_aslAbsX, aslForm]; exact .modify _ _ _ _ leftFlags_quiet (by decide) (by decide)
  | lsrAcc => rw [exec_lsrAcc, lsrForm]; exact .modify _ _ _ _ rightFlags_quiet (by decide) (by decide)
  | lsrZp b1 => rw [exec_lsrZp, lsrForm]; exact .modify _ _ _ _ rightFlags_quiet (by decide) (by decide)
  | lsrZpX b1 => rw [exec_lsrZpX, lsrForm]; exact .modify _ _ _ _ rightFlags_quiet (by decide) (by decide)
  | lsrAbs w => rw [exec_lsrAbs, lsrForm]; exact .modify _ _ _ _ rightFlags_quiet (by decide) (by decide)
  | lsrAbsX w => rw [exec_lsrAbsX, lsrForm]; exact .modify _ _ _ _ rightFlags_quiet (by decide) (by decide)
  | rolAcc => rw [exec_rolAcc, rolForm]; exact .modify _ _ _ _ leftFlags_quiet (by decide) (by decide)
  | rolZp b1 => rw [exec_rolZp, rolForm]; exact .modify _ _ _ _ leftFlags_quiet (by decide) (by decide)
  | rolZpX b1 => rw [exec_rolZpX, rolForm]; exact .modify _ _ _ _ leftFlags_quiet (by decide) (by decide)
  | rolAbs w => rw [exec_rolAbs, rolForm]; exact .modify _ _ _ _ leftFlags_quiet (by decide) (by decide)
  | rolAbsX w => rw [exec_rolAbsX, rolForm]; exact .modify _ _ _ _ leftFlags_quiet (by decide) (by decide)
  | rorAcc => rw [exec_rorAcc, rorForm]; exact .modify _ _ _ _ rightFlags_quiet (by decide) (by decide)
  | rorZp b1 => rw [exec_rorZp, rorForm]; exact .modify _ _ _ _ rightFlags_quiet (by decide) (by decide)
  | rorZpX b1 => rw [exec_rorZpX, rorForm]; exact .modify _ _ _ _ rightFlags_quiet (by decide) (by decide)
  | rorAbs w => rw [exec_rorAbs, rorForm]; exact .modify _ _ _ _ rightFlags_quiet (by decide) (by decide)
  | rorAbsX w => rw [exec_rorAbsX, rorForm]; exact .modify _ _ _ _ rightFlags_quiet (by decide) (by decide)
  | bcc b1 => rw [exec_bcc]; exact .branch _ _
  | bcs b1 => rw [exec_bcs]; exact .branch _ _
  | beq b1 => rw [exec_beq]; exact .branch _ _
  | bne b1 => rw [exec_bne]; exact .branch _ _
  | bmi b1 => rw [exec_bmi]; exact .branch _ _
  | bpl b1 => rw [exec_bpl]; exact .branch _ _
  | bvc b1 => rw [exec_bvc]; exact .branch _ _
  | bvs b1 => rw [exec_bvs]; exact .branch _ _
  | jmpAbs w => rw [exec_jmpAbs]; exact .jump _ _ (by decide) (by decide)
  | jmpInd w => rw [exec_jmpInd]; exact .jump _ _ (by decide) (by decide)
  | jsr w => rw [exec_jsr]; exact .call _
  | rts => rw [exec_rts]; exact .ret
  | pha => rw [exec_pha]; exact .push (fun s => s.A) _ (by decide) (by decide)
  | php => rw [exec_php]; exact .push packP _ (by decide) (by decide)
  | pla => rw [exec_pla]; exact .implied _ _ (fun t => by constructor <;> simp [loadA]) (by decide) (by decide)
  | plp => rw [exec_plp]; exact .implied _ _ (fun t => by constructor <;> simp) (by decide) (by decide)
  | tsx => rw [exec_tsx]; exact .implied _ _ (fun t => by constructor <;> simp [loadX]) (by decide) (by decide)
  | txs => rw [exec_txs]; exact .implied _ _ (fun t => by constructor <;> simp) (by decide) (by decide)
  | clc => rw [exec_clc]; exact .implied _ _ (fun t => by constructor <;> simp) (by decide) (by decide)
  | sec => rw [exec_sec]; exact .implied _ _ (fun t => by constructor <;> simp) (by decide) (by decide)
  | cli => rw [exec_cli]; exact .implied _ _ (fun t => by constructor <;> simp) (by decide) (by decide)
  | sei => rw [exec_sei]; exact .implied _ _ (fun t => by constructor <;> simp) (by decide) (by decide)
  | cld => rw [exec_cld]; exact .implied _ _ (fun t => by constructor <;> simp) (by decide) (by decide)
  | sed => rw [exec_sed]; exact .implied _ _ (fun t => by constructor <;> simp) (by decide) (by decide)
  | clv => rw [exec_clv]; exact .implied _ _ (fun t => by constructor <;> simp) (by decide) (by decide)
  | nop => rw [exec_nop]; exact .implied _ _ (fun t => by constructor <;> rfl) (by decide) (by decide)
  | brk => rw [exec_brk]; exact .trap
  | rti => rw [exec_rti]; exact .trapReturn

end Sys2Proof.Machine
end

