-- ==== Sys2Proof/Laws/Flags.lean ====
section
/-! SUPPORT. What the flag helpers of Machine/Flags.lean compute, in the operators of bit vectors, and what they leave
alone. -/

namespace Sys2Proof.Machine

theorem bitNat_eq_toNat (c : Bool) : bitNat c = c.toNat := by cases c <;> rfl

/-- A shift to the left with a given bit 0 (R165, R167). -/
theorem shiftLeft_eq : ∀ (b : Byte) (c : Bool), shiftLeft b c = (b <<< 1) ||| (if c then 0x01 else 0x00) := by decide

/-- A shift to the right with a given bit 7 (R166, R168). -/
theorem shiftRight_eq : ∀ (b : Byte) (c : Bool), shiftRight b c = (b >>> 1) ||| (if c then 0x80 else 0x00) := by decide

/-- Bit 7 of a byte says that it is at least 128. -/
theorem byteBit_seven : ∀ b : Byte, byteBit b 7 = decide (128 ≤ b.toNat) := by decide

/-- A compare writes C, Z and N and nothing else (R153). -/
theorem compareReg_fields (reg m : Byte) (s : State) :
    (compareReg reg m s).A = s.A ∧ (compareReg reg m s).X = s.X ∧ (compareReg reg m s).Y = s.Y ∧
      (compareReg reg m s).I = s.I ∧ (compareReg reg m s).D = s.D ∧ (compareReg reg m s).B = s.B ∧
      (compareReg reg m s).V = s.V ∧ Quiet s (compareReg reg m s) := by
  refine ⟨rfl, rfl, rfl, rfl, rfl, rfl, rfl, ?_⟩
  constructor <;> rfl

end Sys2Proof.Machine
end

