-- ==== Sys2Proof/Laws/PerInstr.lean ====
section
/-! SUPPORT. Facts about every instruction as syntax, one lemma per constructor. `EncodedForm`: the instruction is well formed
(R117), its encoding has the length its format says (R86), and its bytes pass the byte check (R80, R91). -/

namespace Sys2Proof.Laws.EncodedForm

/-- What is said of each instruction. -/
def Statement (i : Instr) : Prop :=
  i.wellFormed = true ∧ (encode i).length = i.length ∧ wellFormedBytes (encode i) = true

theorem ldaImm (b1 : Byte) : Statement (.ldaImm b1) := ⟨rfl, rfl, rfl⟩
theorem ldaZp (b1 : Byte) : Statement (.ldaZp b1) := ⟨rfl, rfl, rfl⟩
theorem ldaZpX (b1 : Byte) : Statement (.ldaZpX b1) := ⟨rfl, rfl, rfl⟩
theorem ldaAbs (w : Word) : Statement (.ldaAbs w) := ⟨rfl, rfl, rfl⟩
theorem ldaAbsX (w : Word) : Statement (.ldaAbsX w) := ⟨rfl, rfl, rfl⟩
theorem ldaAbsY (w : Word) : Statement (.ldaAbsY w) := ⟨rfl, rfl, rfl⟩
theorem ldaIndX (b1 : Byte) : Statement (.ldaIndX b1) := ⟨rfl, rfl, rfl⟩
theorem ldaIndY (b1 : Byte) : Statement (.ldaIndY b1) := ⟨rfl, rfl, rfl⟩
theorem ldxImm (b1 : Byte) : Statement (.ldxImm b1) := ⟨rfl, rfl, rfl⟩
theorem ldxZp (b1 : Byte) : Statement (.ldxZp b1) := ⟨rfl, rfl, rfl⟩
theorem ldxZpY (b1 : Byte) : Statement (.ldxZpY b1) := ⟨rfl, rfl, rfl⟩
theorem ldxAbs (w : Word) : Statement (.ldxAbs w) := ⟨rfl, rfl, rfl⟩
theorem ldxAbsY (w : Word) : Statement (.ldxAbsY w) := ⟨rfl, rfl, rfl⟩
theorem ldyImm (b1 : Byte) : Statement (.ldyImm b1) := ⟨rfl, rfl, rfl⟩
theorem ldyZp (b1 : Byte) : Statement (.ldyZp b1) := ⟨rfl, rfl, rfl⟩
theorem ldyZpX (b1 : Byte) : Statement (.ldyZpX b1) := ⟨rfl, rfl, rfl⟩
theorem ldyAbs (w : Word) : Statement (.ldyAbs w) := ⟨rfl, rfl, rfl⟩
theorem ldyAbsX (w : Word) : Statement (.ldyAbsX w) := ⟨rfl, rfl, rfl⟩
theorem staZp (b1 : Byte) : Statement (.staZp b1) := ⟨rfl, rfl, rfl⟩
theorem staZpX (b1 : Byte) : Statement (.staZpX b1) := ⟨rfl, rfl, rfl⟩
theorem staAbs (w : Word) : Statement (.staAbs w) := ⟨rfl, rfl, rfl⟩
theorem staAbsX (w : Word) : Statement (.staAbsX w) := ⟨rfl, rfl, rfl⟩
theorem staAbsY (w : Word) : Statement (.staAbsY w) := ⟨rfl, rfl, rfl⟩
theorem staIndX (b1 : Byte) : Statement (.staIndX b1) := ⟨rfl, rfl, rfl⟩
theorem staIndY (b1 : Byte) : Statement (.staIndY b1) := ⟨rfl, rfl, rfl⟩
theorem stxZp (b1 : Byte) : Statement (.stxZp b1) := ⟨rfl, rfl, rfl⟩
theorem stxZpY (b1 : Byte) : Statement (.stxZpY b1) := ⟨rfl, rfl, rfl⟩
theorem stxAbs (w : Word) : Statement (.stxAbs w) := ⟨rfl, rfl, rfl⟩
theorem styZp (b1 : Byte) : Statement (.styZp b1) := ⟨rfl, rfl, rfl⟩
theorem styZpX (b1 : Byte) : Statement (.styZpX b1) := ⟨rfl, rfl, rfl⟩
theorem styAbs (w : Word) : Statement (.styAbs w) := ⟨rfl, rfl, rfl⟩
theorem tax : Statement .tax := ⟨rfl, rfl, rfl⟩
theorem tay : Statement .tay := ⟨rfl, rfl, rfl⟩
theorem txa : Statement .txa := ⟨rfl, rfl, rfl⟩
theorem tya : Statement .tya := ⟨rfl, rfl, rfl⟩
theorem adcImm (b1 : Byte) : Statement (.adcImm b1) := ⟨rfl, rfl, rfl⟩
theorem adcZp (b1 : Byte) : Statement (.adcZp b1) := ⟨rfl, rfl, rfl⟩
theorem adcZpX (b1 : Byte) : Statement (.adcZpX b1) := ⟨rfl, rfl, rfl⟩
theorem adcAbs (w : Word) : Statement (.adcAbs w) := ⟨rfl, rfl, rfl⟩
theorem adcAbsX (w : Word) : Statement (.adcAbsX w) := ⟨rfl, rfl, rfl⟩
theorem adcAbsY (w : Word) : Statement (.adcAbsY w) := ⟨rfl, rfl, rfl⟩
theorem adcIndX (b1 : Byte) : Statement (.adcIndX b1) := ⟨rfl, rfl, rfl⟩
theorem adcIndY (b1 : Byte) : Statement (.adcIndY b1) := ⟨rfl, rfl, rfl⟩
theorem sbcImm (b1 : Byte) : Statement (.sbcImm b1) := ⟨rfl, rfl, rfl⟩
theorem sbcZp (b1 : Byte) : Statement (.sbcZp b1) := ⟨rfl, rfl, rfl⟩
theorem sbcZpX (b1 : Byte) : Statement (.sbcZpX b1) := ⟨rfl, rfl, rfl⟩
theorem sbcAbs (w : Word) : Statement (.sbcAbs w) := ⟨rfl, rfl, rfl⟩
theorem sbcAbsX (w : Word) : Statement (.sbcAbsX w) := ⟨rfl, rfl, rfl⟩
theorem sbcAbsY (w : Word) : Statement (.sbcAbsY w) := ⟨rfl, rfl, rfl⟩
theorem sbcIndX (b1 : Byte) : Statement (.sbcIndX b1) := ⟨rfl, rfl, rfl⟩
theorem sbcIndY (b1 : Byte) : Statement (.sbcIndY b1) := ⟨rfl, rfl, rfl⟩
theorem cmpImm (b1 : Byte) : Statement (.cmpImm b1) := ⟨rfl, rfl, rfl⟩
theorem cmpZp (b1 : Byte) : Statement (.cmpZp b1) := ⟨rfl, rfl, rfl⟩
theorem cmpZpX (b1 : Byte) : Statement (.cmpZpX b1) := ⟨rfl, rfl, rfl⟩
theorem cmpAbs (w : Word) : Statement (.cmpAbs w) := ⟨rfl, rfl, rfl⟩
theorem cmpAbsX (w : Word) : Statement (.cmpAbsX w) := ⟨rfl, rfl, rfl⟩
theorem cmpAbsY (w : Word) : Statement (.cmpAbsY w) := ⟨rfl, rfl, rfl⟩
theorem cmpIndX (b1 : Byte) : Statement (.cmpIndX b1) := ⟨rfl, rfl, rfl⟩
theorem cmpIndY (b1 : Byte) : Statement (.cmpIndY b1) := ⟨rfl, rfl, rfl⟩
theorem cpxImm (b1 : Byte) : Statement (.cpxImm b1) := ⟨rfl, rfl, rfl⟩
theorem cpxZp (b1 : Byte) : Statement (.cpxZp b1) := ⟨rfl, rfl, rfl⟩
theorem cpxAbs (w : Word) : Statement (.cpxAbs w) := ⟨rfl, rfl, rfl⟩
theorem cpyImm (b1 : Byte) : Statement (.cpyImm b1) := ⟨rfl, rfl, rfl⟩
theorem cpyZp (b1 : Byte) : Statement (.cpyZp b1) := ⟨rfl, rfl, rfl⟩
theorem cpyAbs (w : Word) : Statement (.cpyAbs w) := ⟨rfl, rfl, rfl⟩
theorem incZp (b1 : Byte) : Statement (.incZp b1) := ⟨rfl, rfl, rfl⟩
theorem incZpX (b1 : Byte) : Statement (.incZpX b1) := ⟨rfl, rfl, rfl⟩
theorem incAbs (w : Word) : Statement (.incAbs w) := ⟨rfl, rfl, rfl⟩
theorem incAbsX (w : Word) : Statement (.incAbsX w) := ⟨rfl, rfl, rfl⟩
theorem inx : Statement .inx := ⟨rfl, rfl, rfl⟩
theorem iny : Statement .iny := ⟨rfl, rfl, rfl⟩
theorem decZp (b1 : Byte) : Statement (.decZp b1) := ⟨rfl, rfl, rfl⟩
theorem decZpX (b1 : Byte) : Statement (.decZpX b1) := ⟨rfl, rfl, rfl⟩
theorem decAbs (w : Word) : Statement (.decAbs w) := ⟨rfl, rfl, rfl⟩
theorem decAbsX (w : Word) : Statement (.decAbsX w) := ⟨rfl, rfl, rfl⟩
theorem dex : Statement .dex := ⟨rfl, rfl, rfl⟩
theorem dey : Statement .dey := ⟨rfl, rfl, rfl⟩
theorem andImm (b1 : Byte) : Statement (.andImm b1) := ⟨rfl, rfl, rfl⟩
theorem andZp (b1 : Byte) : Statement (.andZp b1) := ⟨rfl, rfl, rfl⟩
theorem andZpX (b1 : Byte) : Statement (.andZpX b1) := ⟨rfl, rfl, rfl⟩
theorem andAbs (w : Word) : Statement (.andAbs w) := ⟨rfl, rfl, rfl⟩
theorem andAbsX (w : Word) : Statement (.andAbsX w) := ⟨rfl, rfl, rfl⟩
theorem andAbsY (w : Word) : Statement (.andAbsY w) := ⟨rfl, rfl, rfl⟩
theorem andIndX (b1 : Byte) : Statement (.andIndX b1) := ⟨rfl, rfl, rfl⟩
theorem andIndY (b1 : Byte) : Statement (.andIndY b1) := ⟨rfl, rfl, rfl⟩
theorem oraImm (b1 : Byte) : Statement (.oraImm b1) := ⟨rfl, rfl, rfl⟩
theorem oraZp (b1 : Byte) : Statement (.oraZp b1) := ⟨rfl, rfl, rfl⟩
theorem oraZpX (b1 : Byte) : Statement (.oraZpX b1) := ⟨rfl, rfl, rfl⟩
theorem oraAbs (w : Word) : Statement (.oraAbs w) := ⟨rfl, rfl, rfl⟩
theorem oraAbsX (w : Word) : Statement (.oraAbsX w) := ⟨rfl, rfl, rfl⟩
theorem oraAbsY (w : Word) : Statement (.oraAbsY w) := ⟨rfl, rfl, rfl⟩
theorem oraIndX (b1 : Byte) : Statement (.oraIndX b1) := ⟨rfl, rfl, rfl⟩
theorem oraIndY (b1 : Byte) : Statement (.oraIndY b1) := ⟨rfl, rfl, rfl⟩
theorem eorImm (b1 : Byte) : Statement (.eorImm b1) := ⟨rfl, rfl, rfl⟩
theorem eorZp (b1 : Byte) : Statement (.eorZp b1) := ⟨rfl, rfl, rfl⟩
theorem eorZpX (b1 : Byte) : Statement (.eorZpX b1) := ⟨rfl, rfl, rfl⟩
theorem eorAbs (w : Word) : Statement (.eorAbs w) := ⟨rfl, rfl, rfl⟩
theorem eorAbsX (w : Word) : Statement (.eorAbsX w) := ⟨rfl, rfl, rfl⟩
theorem eorAbsY (w : Word) : Statement (.eorAbsY w) := ⟨rfl, rfl, rfl⟩
theorem eorIndX (b1 : Byte) : Statement (.eorIndX b1) := ⟨rfl, rfl, rfl⟩
theorem eorIndY (b1 : Byte) : Statement (.eorIndY b1) := ⟨rfl, rfl, rfl⟩
theorem bitZp (b1 : Byte) : Statement (.bitZp b1) := ⟨rfl, rfl, rfl⟩
theorem bitAbs (w : Word) : Statement (.bitAbs w) := ⟨rfl, rfl, rfl⟩
theorem aslAcc : Statement .aslAcc := ⟨rfl, rfl, rfl⟩
theorem aslZp (b1 : Byte) : Statement (.aslZp b1) := ⟨rfl, rfl, rfl⟩
theorem aslZpX (b1 : Byte) : Statement (.aslZpX b1) := ⟨rfl, rfl, rfl⟩
theorem aslAbs (w : Word) : Statement (.aslAbs w) := ⟨rfl, rfl, rfl⟩
theorem aslAbsX (w : Word) : Statement (.aslAbsX w) := ⟨rfl, rfl, rfl⟩
theorem lsrAcc : Statement .lsrAcc := ⟨rfl, rfl, rfl⟩
theorem lsrZp (b1 : Byte) : Statement (.lsrZp b1) := ⟨rfl, rfl, rfl⟩
theorem lsrZpX (b1 : Byte) : Statement (.lsrZpX b1) := ⟨rfl, rfl, rfl⟩
theorem lsrAbs (w : Word) : Statement (.lsrAbs w) := ⟨rfl, rfl, rfl⟩
theorem lsrAbsX (w : Word) : Statement (.lsrAbsX w) := ⟨rfl, rfl, rfl⟩
theorem rolAcc : Statement .rolAcc := ⟨rfl, rfl, rfl⟩
theorem rolZp (b1 : Byte) : Statement (.rolZp b1) := ⟨rfl, rfl, rfl⟩
theorem rolZpX (b1 : Byte) : Statement (.rolZpX b1) := ⟨rfl, rfl, rfl⟩
theorem rolAbs (w : Word) : Statement (.rolAbs w) := ⟨rfl, rfl, rfl⟩
theorem rolAbsX (w : Word) : Statement (.rolAbsX w) := ⟨rfl, rfl, rfl⟩
theorem rorAcc : Statement .rorAcc := ⟨rfl, rfl, rfl⟩
theorem rorZp (b1 : Byte) : Statement (.rorZp b1) := ⟨rfl, rfl, rfl⟩
theorem rorZpX (b1 : Byte) : Statement (.rorZpX b1) := ⟨rfl, rfl, rfl⟩
theorem rorAbs (w : Word) : Statement (.rorAbs w) := ⟨rfl, rfl, rfl⟩
theorem rorAbsX (w : Word) : Statement (.rorAbsX w) := ⟨rfl, rfl, rfl⟩
theorem bcc (b1 : Byte) : Statement (.bcc b1) := ⟨rfl, rfl, rfl⟩
theorem bcs (b1 : Byte) : Statement (.bcs b1) := ⟨rfl, rfl, rfl⟩
theorem beq (b1 : Byte) : Statement (.beq b1) := ⟨rfl, rfl, rfl⟩
theorem bne (b1 : Byte) : Statement (.bne b1) := ⟨rfl, rfl, rfl⟩
theorem bmi (b1 : Byte) : Statement (.bmi b1) := ⟨rfl, rfl, rfl⟩
theorem bpl (b1 : Byte) : Statement (.bpl b1) := ⟨rfl, rfl, rfl⟩
theorem bvc (b1 : Byte) : Statement (.bvc b1) := ⟨rfl, rfl, rfl⟩
theorem bvs (b1 : Byte) : Statement (.bvs b1) := ⟨rfl, rfl, rfl⟩
theorem jmpAbs (w : Word) : Statement (.jmpAbs w) := ⟨rfl, rfl, rfl⟩
theorem jmpInd (w : Word) : Statement (.jmpInd w) := ⟨rfl, rfl, rfl⟩
theorem jsr (w : Word) : Statement (.jsr w) := ⟨rfl, rfl, rfl⟩
theorem rts : Statement .rts := ⟨rfl, rfl, rfl⟩
theorem pha : Statement .pha := ⟨rfl, rfl, rfl⟩
theorem php : Statement .php := ⟨rfl, rfl, rfl⟩
theorem pla : Statement .pla := ⟨rfl, rfl, rfl⟩
theorem plp : Statement .plp := ⟨rfl, rfl, rfl⟩
theorem tsx : Statement .tsx := ⟨rfl, rfl, rfl⟩
theorem txs : Statement .txs := ⟨rfl, rfl, rfl⟩
theorem clc : Statement .clc := ⟨rfl, rfl, rfl⟩
theorem sec : Statement .sec := ⟨rfl, rfl, rfl⟩
theorem cli : Statement .cli := ⟨rfl, rfl, rfl⟩
theorem sei : Statement .sei := ⟨rfl, rfl, rfl⟩
theorem cld : Statement .cld := ⟨rfl, rfl, rfl⟩
theorem sed : Statement .sed := ⟨rfl, rfl, rfl⟩
theorem clv : Statement .clv := ⟨rfl, rfl, rfl⟩
theorem nop : Statement .nop := ⟨rfl, rfl, rfl⟩
theorem brk : Statement .brk := ⟨rfl, rfl, rfl⟩
theorem rti : Statement .rti := ⟨rfl, rfl, rfl⟩

end Sys2Proof.Laws.EncodedForm
end

