-- ==== Sys2Proof/Laws/Step.lean ====
section
/-! SUPPORT. What a fetch can answer, and the three ways of a step. -/

namespace Sys2Proof.Machine

/-- A fetch fails only on an opcode byte that is not in the map: memory always gives the operand bytes (R51, R86). -/
theorem fetch_error {s : State} {e : DecodeError} (h : fetch s = .error e) :
    opcodeMap (s.readByte s.PC) = none ∧ e = .illegalOpcode (s.readByte s.PC) := by
  cases hm : opcodeMap (s.readByte s.PC) with
  | none =>
    simp [fetch, fetchBytes, opcodeLength, hm, List.range_succ, decode] at h
    exact ⟨rfl, h.symm⟩
  | some en =>
    cases en <;> simp [fetch, fetchBytes, opcodeLength, hm, List.range_succ, decode] at h

/-- An opcode byte in the map is fetched and decoded, and no byte is left over. -/
theorem fetch_of_legal {s : State} (h : opcodeMap (s.readByte s.PC) ≠ none) : ∃ i, fetch s = .ok (i, []) := by
  cases hm : opcodeMap (s.readByte s.PC) with
  | none => exact absurd hm h
  | some en =>
    cases en <;> simp [fetch, fetchBytes, opcodeLength, hm, List.range_succ, decode]

/-- With the latch set, a step answers the latched fault (R85 step 0). -/
theorem step_latched {s : State} {f : Fault} (h : s.fault = some f) : step s = .fault f := by simp [step, h]

/-- A step runs the instruction fetched (R85 steps 1 to 4). -/
theorem step_fetched {s : State} {i : Instr} {rest : List Byte} (hf : s.fault = none) (h : fetch s = .ok (i, rest)) :
    step s = exec i s := by
  simp [step, hf, h]

/-- An opcode byte outside the map sets the latch and nothing else (R85 step 2, R224). -/
theorem step_illegal {s : State} (hf : s.fault = none) (h : opcodeMap (s.readByte s.PC) = none) :
    step s = .next (raiseIllegalOpcode s) := by
  have he : fetch s = .error (.illegalOpcode (s.readByte s.PC)) := by
    simp [fetch, fetchBytes, opcodeLength, h, List.range_succ, decode]
  simp [step, hf, he]

/-- Every step is one of three. -/
theorem step_cases (s : State) :
    (∃ f, s.fault = some f ∧ step s = .fault f) ∨ (∃ i, s.fault = none ∧ fetch s = .ok (i, []) ∧ step s = exec i s) ∨
      (s.fault = none ∧ opcodeMap (s.readByte s.PC) = none ∧ step s = .next (raiseIllegalOpcode s)) := by
  cases hf : s.fault with
  | some f => exact .inl ⟨f, rfl, step_latched hf⟩
  | none =>
    by_cases h : opcodeMap (s.readByte s.PC) = none
    · exact .inr (.inr ⟨rfl, h, step_illegal hf h⟩)
    · obtain ⟨i, hi⟩ := fetch_of_legal h
      exact .inr (.inl ⟨i, rfl, hi, step_fetched hf hi⟩)

end Sys2Proof.Machine
end

