-- ==== Sys2Proof/Machine/Assembler.lean ====
section
/-! DEFINITION. The customary assembler syntax (spec/30_encoding.md rules R93, R94; D21). It carries no semantics: nothing
of the machine uses it. A text is a list of characters (DESIGN CHOICE, notes/assumptions/12.md). -/

namespace Sys2Proof.Machine

/-- One hexadecimal digit, capitals (R93). -/
def hexDigit (n : Nat) : Char := "0123456789ABCDEF".toList.getD n '?'

/-- `nn`, two hexadecimal digits (R93). -/
def hex2 (b : Byte) : List Char := [hexDigit (b.toNat / 16), hexDigit (b.toNat % 16)]

/-- `nnnn`, four hexadecimal digits (R93). -/
def hex4 (w : Word) : List Char := hex2 (hi8 w) ++ hex2 (lo8 w)

/-- The three letters of a mnemonic (R88). -/
def mnemonicText (m : Mnemonic) : List Char :=
  match m with
  | .lda => "LDA".toList | .ldx => "LDX".toList | .ldy => "LDY".toList | .sta => "STA".toList | .stx => "STX".toList
  | .sty => "STY".toList | .tax => "TAX".toList | .tay => "TAY".toList | .txa => "TXA".toList | .tya => "TYA".toList
  | .adc => "ADC".toList | .sbc => "SBC".toList | .cmp => "CMP".toList | .cpx => "CPX".toList | .cpy => "CPY".toList
  | .inc => "INC".toList | .inx => "INX".toList | .iny => "INY".toList | .dec => "DEC".toList | .dex => "DEX".toList
  | .dey => "DEY".toList
  | .and => "AND".toList | .ora => "ORA".toList | .eor => "EOR".toList | .bit => "BIT".toList | .asl => "ASL".toList
  | .lsr => "LSR".toList | .rol => "ROL".toList | .ror => "ROR".toList
  | .bcc => "BCC".toList | .bcs => "BCS".toList | .beq => "BEQ".toList | .bne => "BNE".toList | .bmi => "BMI".toList
  | .bpl => "BPL".toList | .bvc => "BVC".toList | .bvs => "BVS".toList | .jmp => "JMP".toList | .jsr => "JSR".toList
  | .rts => "RTS".toList
  | .pha => "PHA".toList | .php => "PHP".toList | .pla => "PLA".toList | .plp => "PLP".toList | .tsx => "TSX".toList
  | .txs => "TXS".toList
  | .clc => "CLC".toList | .sec => "SEC".toList | .cli => "CLI".toList | .sei => "SEI".toList | .cld => "CLD".toList
  | .sed => "SED".toList | .clv => "CLV".toList | .nop => "NOP".toList | .brk => "BRK".toList | .rti => "RTI".toList

/-- The target a branch at `address` with offset byte `b1` is written with (R84, R93). -/
def branchTargetAt (address : Word) (b1 : Byte) : Word := address + 2 + b1.signExtend 16

/-- The offset byte an assembler stores for a branch at `address` to `target`: `u8(target - (address + 2))`; a distance
outside -128 to +127 is rejected (R93). -/
def branchOffset (address target : Word) : Option Byte :=
  let d := (target - (address + 2)).toInt
  if -128 ≤ d ∧ d ≤ 127 then some (BitVec.ofInt 8 d) else none

/-- The operand of an instruction at `address`, by format, from its operand bytes (R93). -/
def operandText (address : Word) (f : Format) (operands : List Byte) : List Char :=
  let b1 := operands.getD 0 0
  let w := mkWord (operands.getD 1 0) b1
  match f with
  | .implied => []
  | .accumulator => " A".toList
  | .immediate => " #$".toList ++ hex2 b1
  | .zeroPage => " $".toList ++ hex2 b1
  | .zeroPageX => " $".toList ++ hex2 b1 ++ ",X".toList
  | .zeroPageY => " $".toList ++ hex2 b1 ++ ",Y".toList
  | .absolute => " $".toList ++ hex4 w
  | .absoluteX => " $".toList ++ hex4 w ++ ",X".toList
  | .absoluteY => " $".toList ++ hex4 w ++ ",Y".toList
  | .indirectX => " ($".toList ++ hex2 b1 ++ ",X)".toList
  | .indirectY => " ($".toList ++ hex2 b1 ++ "),Y".toList
  | .indirect => " ($".toList ++ hex4 w ++ ")".toList
  | .relative => " $".toList ++ hex4 (branchTargetAt address b1)

/-- An instruction at `address` as assembler text (R93). -/
def assemblerText (address : Word) (i : Instr) : List Char :=
  mnemonicText i.mnemonic ++ operandText address i.format ((encode i).drop 1)

end Sys2Proof.Machine
end

