-- ==== Sys2Proof/Tests/Slice0.lean ====
section
/-! SUPPORT. Tests of the model. Every expected result is written out from spec/95_test_vectors.md (the vector's id
stands in the comment), from the opcode map of spec/30_encoding.md rule R89 or from the rule named; and a witness for
every statement that has hypotheses. -/

namespace Sys2Proof.Tests

open Sys2Proof Sys2Proof.Machine Sys2Proof.Spec

/-- A state with some cells written. -/
def poke (cells : List (Word × Byte)) (s : State) : State := cells.foldl (fun t c => t.writeByte c.1 c.2) s

/-- The start state of a vector (95_test_vectors.md section 0): PC at the instruction's bytes, further cells written. -/
def startAt (pc : Word) (bytes : List Byte) (cells : List (Word × Byte)) (s : State) : State :=
  poke cells (writeBytes pc bytes { s with PC := pc })

/-- The registers and flags of SW, the common start state of the opcode sweep (95_test_vectors.md section 2); each test
adds the cells of SW that its instruction reads or writes. -/
def sweep : State := { State.reset with A := 0x35, X := 0x04, Y := 0x10, C := true, SP := 0xF0 }

/-- An answer is the next state given. -/
def nextIs (r : Result) (t : State) : Bool :=
  match r with
  | .next s => decide (s = t)
  | .fault _ => false
  | .refused _ => false

/-- One step makes exactly this change. -/
def stepsTo (s : State) (change : State → State) : Bool := nextIs (step s) (change s)

/-- An answer is the fault given. -/
def faultIs (r : Result) (f : Fault) : Bool :=
  match r with
  | .next _ => false
  | .fault g => decide (g = f)
  | .refused _ => false

/-! ## Well-formedness: each check refuses an ill-formed term (R91, R92, R80, R117) -/

theorem test_wellFormed_instruction :
    (Instr.ldaImm 0x10).wellFormed = true ∧ (Instr.jmpInd 0x1234).wellFormed = true := by decide
theorem test_illFormed_store_immediate : wellFormedForm .sta .immediate = false := by decide
theorem test_illFormed_ldx_indexed_by_x : wellFormedForm .ldx .zeroPageX = false := by decide
theorem test_illFormed_jump_indexed : wellFormedForm .jmp .absoluteX = false := by decide
theorem test_illFormed_no_byte : wellFormedBytes [] = false := by decide
theorem test_illFormed_opcode_byte :
    wellFormedBytes [0x02] = false ∧ wellFormedBytes [0xEB, 0x10] = false := by decide
theorem test_illFormed_four_bytes : wellFormedBytes [0xAD, 0x34, 0x12, 0x00] = false := by decide
theorem test_wellFormed_bytes : wellFormedBytes [0xAD, 0x34, 0x12] = true := by decide

/-! ## Decoding: every opcode byte of the map (R89), with the operand bytes of the sweep; low byte first (R83) -/

theorem test_decode_0x :
    decode [0x00] = .ok (.brk, []) ∧ decode [0x01, 0x70] = .ok (.oraIndX 0x70, []) ∧
    decode [0x05, 0x40] = .ok (.oraZp 0x40, []) ∧ decode [0x06, 0x40] = .ok (.aslZp 0x40, []) := by
  decide

theorem test_decode_0x_upper :
    decode [0x08] = .ok (.php, []) ∧ decode [0x09, 0x8F] = .ok (.oraImm 0x8F, []) ∧
    decode [0x0A] = .ok (.aslAcc, []) ∧ decode [0x0D, 0x34, 0x12] = .ok (.oraAbs 0x1234, []) ∧
    decode [0x0E, 0x34, 0x12] = .ok (.aslAbs 0x1234, []) := by
  decide

theorem test_decode_1x :
    decode [0x10, 0x10] = .ok (.bpl 0x10, []) ∧ decode [0x11, 0x60] = .ok (.oraIndY 0x60, []) ∧
    decode [0x15, 0x40] = .ok (.oraZpX 0x40, []) ∧ decode [0x16, 0x40] = .ok (.aslZpX 0x40, []) ∧
    decode [0x18] = .ok (.clc, []) ∧ decode [0x19, 0x34, 0x12] = .ok (.oraAbsY 0x1234, []) ∧
    decode [0x1D, 0xFE, 0x12] = .ok (.oraAbsX 0x12FE, []) ∧
    decode [0x1E, 0xFE, 0x12] = .ok (.aslAbsX 0x12FE, []) := by
  decide

theorem test_decode_2x :
    decode [0x20, 0x34, 0x12] = .ok (.jsr 0x1234, []) ∧ decode [0x21, 0x70] = .ok (.andIndX 0x70, []) ∧
    decode [0x24, 0x40] = .ok (.bitZp 0x40, []) ∧ decode [0x25, 0x40] = .ok (.andZp 0x40, []) ∧
    decode [0x26, 0x40] = .ok (.rolZp 0x40, []) := by
  decide

theorem test_decode_2x_upper :
    decode [0x28] = .ok (.plp, []) ∧ decode [0x29, 0x8F] = .ok (.andImm 0x8F, []) ∧
    decode [0x2A] = .ok (.rolAcc, []) ∧ decode [0x2C, 0x34, 0x12] = .ok (.bitAbs 0x1234, []) ∧
    decode [0x2D, 0x34, 0x12] = .ok (.andAbs 0x1234, []) ∧ decode [0x2E, 0x34, 0x12] = .ok (.rolAbs 0x1234, []) := by
  decide

theorem test_decode_3x :
    decode [0x30, 0x10] = .ok (.bmi 0x10, []) ∧ decode [0x31, 0x60] = .ok (.andIndY 0x60, []) ∧
    decode [0x35, 0x40] = .ok (.andZpX 0x40, []) ∧ decode [0x36, 0x40] = .ok (.rolZpX 0x40, []) ∧
    decode [0x38] = .ok (.sec, []) ∧ decode [0x39, 0x34, 0x12] = .ok (.andAbsY 0x1234, []) ∧
    decode [0x3D, 0xFE, 0x12] = .ok (.andAbsX 0x12FE, []) ∧
    decode [0x3E, 0xFE, 0x12] = .ok (.rolAbsX 0x12FE, []) := by
  decide

theorem test_decode_4x :
    decode [0x40] = .ok (.rti, []) ∧ decode [0x41, 0x70] = .ok (.eorIndX 0x70, []) ∧
    decode [0x45, 0x40] = .ok (.eorZp 0x40, []) ∧ decode [0x46, 0x40] = .ok (.lsrZp 0x40, []) ∧
    decode [0x48] = .ok (.pha, []) := by
  decide

theorem test_decode_4x_upper :
    decode [0x49, 0x8F] = .ok (.eorImm 0x8F, []) ∧ decode [0x4A] = .ok (.lsrAcc, []) ∧
    decode [0x4C, 0x34, 0x12] = .ok (.jmpAbs 0x1234, []) ∧
    decode [0x4D, 0x34, 0x12] = .ok (.eorAbs 0x1234, []) ∧ decode [0x4E, 0x34, 0x12] = .ok (.lsrAbs 0x1234, []) := by
  decide

theorem test_decode_5x :
    decode [0x50, 0x10] = .ok (.bvc 0x10, []) ∧ decode [0x51, 0x60] = .ok (.eorIndY 0x60, []) ∧
    decode [0x55, 0x40] = .ok (.eorZpX 0x40, []) ∧ decode [0x56, 0x40] = .ok (.lsrZpX 0x40, []) ∧
    decode [0x58] = .ok (.cli, []) ∧ decode [0x59, 0x34, 0x12] = .ok (.eorAbsY 0x1234, []) ∧
    decode [0x5D, 0xFE, 0x12] = .ok (.eorAbsX 0x12FE, []) ∧
    decode [0x5E, 0xFE, 0x12] = .ok (.lsrAbsX 0x12FE, []) := by
  decide

theorem test_decode_6x :
    decode [0x60] = .ok (.rts, []) ∧ decode [0x61, 0x70] = .ok (.adcIndX 0x70, []) ∧
    decode [0x65, 0x40] = .ok (.adcZp 0x40, []) ∧ decode [0x66, 0x40] = .ok (.rorZp 0x40, []) ∧
    decode [0x68] = .ok (.pla, []) := by
  decide

theorem test_decode_6x_upper :
    decode [0x69, 0x8F] = .ok (.adcImm 0x8F, []) ∧ decode [0x6A] = .ok (.rorAcc, []) ∧
    decode [0x6C, 0x50, 0x12] = .ok (.jmpInd 0x1250, []) ∧
    decode [0x6D, 0x34, 0x12] = .ok (.adcAbs 0x1234, []) ∧ decode [0x6E, 0x34, 0x12] = .ok (.rorAbs 0x1234, []) := by
  decide

theorem test_decode_7x :
    decode [0x70, 0x10] = .ok (.bvs 0x10, []) ∧ decode [0x71, 0x60] = .ok (.adcIndY 0x60, []) ∧
    decode [0x75, 0x40] = .ok (.adcZpX 0x40, []) ∧ decode [0x76, 0x40] = .ok (.rorZpX 0x40, []) ∧
    decode [0x78] = .ok (.sei, []) ∧ decode [0x79, 0x34, 0x12] = .ok (.adcAbsY 0x1234, []) ∧
    decode [0x7D, 0xFE, 0x12] = .ok (.adcAbsX 0x12FE, []) ∧
    decode [0x7E, 0xFE, 0x12] = .ok (.rorAbsX 0x12FE, []) := by
  decide

theorem test_decode_8x :
    decode [0x81, 0x70] = .ok (.staIndX 0x70, []) ∧ decode [0x84, 0x40] = .ok (.styZp 0x40, []) ∧
    decode [0x85, 0x40] = .ok (.staZp 0x40, []) ∧ decode [0x86, 0x40] = .ok (.stxZp 0x40, []) := by
  decide

theorem test_decode_8x_upper :
    decode [0x88] = .ok (.dey, []) ∧ decode [0x8A] = .ok (.txa, []) ∧
    decode [0x8C, 0x34, 0x12] = .ok (.styAbs 0x1234, []) ∧
    decode [0x8D, 0x34, 0x12] = .ok (.staAbs 0x1234, []) ∧ decode [0x8E, 0x34, 0x12] = .ok (.stxAbs 0x1234, []) := by
  decide

theorem test_decode_9x :
    decode [0x90, 0x10] = .ok (.bcc 0x10, []) ∧ decode [0x91, 0x60] = .ok (.staIndY 0x60, []) ∧
    decode [0x94, 0x40] = .ok (.styZpX 0x40, []) ∧ decode [0x95, 0x40] = .ok (.staZpX 0x40, []) := by
  decide

theorem test_decode_9x_upper :
    decode [0x96, 0x40] = .ok (.stxZpY 0x40, []) ∧ decode [0x98] = .ok (.tya, []) ∧
    decode [0x99, 0x34, 0x12] = .ok (.staAbsY 0x1234, []) ∧ decode [0x9A] = .ok (.txs, []) ∧
    decode [0x9D, 0xFE, 0x12] = .ok (.staAbsX 0x12FE, []) := by
  decide

theorem test_decode_ax :
    decode [0xA0, 0x8F] = .ok (.ldyImm 0x8F, []) ∧ decode [0xA1, 0x70] = .ok (.ldaIndX 0x70, []) ∧
    decode [0xA2, 0x8F] = .ok (.ldxImm 0x8F, []) ∧ decode [0xA4, 0x40] = .ok (.ldyZp 0x40, []) ∧
    decode [0xA5, 0x40] = .ok (.ldaZp 0x40, []) ∧ decode [0xA6, 0x40] = .ok (.ldxZp 0x40, []) := by
  decide

theorem test_decode_ax_upper :
    decode [0xA8] = .ok (.tay, []) ∧ decode [0xA9, 0x8F] = .ok (.ldaImm 0x8F, []) ∧
    decode [0xAA] = .ok (.tax, []) ∧ decode [0xAC, 0x34, 0x12] = .ok (.ldyAbs 0x1234, []) ∧
    decode [0xAD, 0x34, 0x12] = .ok (.ldaAbs 0x1234, []) ∧ decode [0xAE, 0x34, 0x12] = .ok (.ldxAbs 0x1234, []) := by
  decide

theorem test_decode_bx :
    decode [0xB0, 0x10] = .ok (.bcs 0x10, []) ∧ decode [0xB1, 0x60] = .ok (.ldaIndY 0x60, []) ∧
    decode [0xB4, 0x40] = .ok (.ldyZpX 0x40, []) ∧ decode [0xB5, 0x40] = .ok (.ldaZpX 0x40, []) ∧
    decode [0xB6, 0x40] = .ok (.ldxZpY 0x40, []) := by
  decide

theorem test_decode_bx_upper :
    decode [0xB8] = .ok (.clv, []) ∧ decode [0xB9, 0x34, 0x12] = .ok (.ldaAbsY 0x1234, []) ∧
    decode [0xBA] = .ok (.tsx, []) ∧ decode [0xBC, 0xFE, 0x12] = .ok (.ldyAbsX 0x12FE, []) ∧
    decode [0xBD, 0xFE, 0x12] = .ok (.ldaAbsX 0x12FE, []) ∧
    decode [0xBE, 0x34, 0x12] = .ok (.ldxAbsY 0x1234, []) := by
  decide

theorem test_decode_cx :
    decode [0xC0, 0x8F] = .ok (.cpyImm 0x8F, []) ∧ decode [0xC1, 0x70] = .ok (.cmpIndX 0x70, []) ∧
    decode [0xC4, 0x40] = .ok (.cpyZp 0x40, []) ∧ decode [0xC5, 0x40] = .ok (.cmpZp 0x40, []) ∧
    decode [0xC6, 0x40] = .ok (.decZp 0x40, []) := by
  decide

theorem test_decode_cx_upper :
    decode [0xC8] = .ok (.iny, []) ∧ decode [0xC9, 0x8F] = .ok (.cmpImm 0x8F, []) ∧
    decode [0xCA] = .ok (.dex, []) ∧ decode [0xCC, 0x34, 0x12] = .ok (.cpyAbs 0x1234, []) ∧
    decode [0xCD, 0x34, 0x12] = .ok (.cmpAbs 0x1234, []) ∧ decode [0xCE, 0x34, 0x12] = .ok (.decAbs 0x1234, []) := by
  decide

theorem test_decode_dx :
    decode [0xD0, 0x10] = .ok (.bne 0x10, []) ∧ decode [0xD1, 0x60] = .ok (.cmpIndY 0x60, []) ∧
    decode [0xD5, 0x40] = .ok (.cmpZpX 0x40, []) ∧ decode [0xD6, 0x40] = .ok (.decZpX 0x40, []) ∧
    decode [0xD8] = .ok (.cld, []) ∧ decode [0xD9, 0x34, 0x12] = .ok (.cmpAbsY 0x1234, []) ∧
    decode [0xDD, 0xFE, 0x12] = .ok (.cmpAbsX 0x12FE, []) ∧
    decode [0xDE, 0xFE, 0x12] = .ok (.decAbsX 0x12FE, []) := by
  decide

theorem test_decode_ex :
    decode [0xE0, 0x8F] = .ok (.cpxImm 0x8F, []) ∧ decode [0xE1, 0x70] = .ok (.sbcIndX 0x70, []) ∧
    decode [0xE4, 0x40] = .ok (.cpxZp 0x40, []) ∧ decode [0xE5, 0x40] = .ok (.sbcZp 0x40, []) ∧
    decode [0xE6, 0x40] = .ok (.incZp 0x40, []) := by
  decide

theorem test_decode_ex_upper :
    decode [0xE8] = .ok (.inx, []) ∧ decode [0xE9, 0x8F] = .ok (.sbcImm 0x8F, []) ∧
    decode [0xEA] = .ok (.nop, []) ∧ decode [0xEC, 0x34, 0x12] = .ok (.cpxAbs 0x1234, []) ∧
    decode [0xED, 0x34, 0x12] = .ok (.sbcAbs 0x1234, []) ∧ decode [0xEE, 0x34, 0x12] = .ok (.incAbs 0x1234, []) := by
  decide

theorem test_decode_fx :
    decode [0xF0, 0x10] = .ok (.beq 0x10, []) ∧ decode [0xF1, 0x60] = .ok (.sbcIndY 0x60, []) ∧
    decode [0xF5, 0x40] = .ok (.sbcZpX 0x40, []) ∧ decode [0xF6, 0x40] = .ok (.incZpX 0x40, []) ∧
    decode [0xF8] = .ok (.sed, []) ∧ decode [0xF9, 0x34, 0x12] = .ok (.sbcAbsY 0x1234, []) ∧
    decode [0xFD, 0xFE, 0x12] = .ok (.sbcAbsX 0x12FE, []) ∧
    decode [0xFE, 0xFE, 0x12] = .ok (.incAbsX 0x12FE, []) := by
  decide

/-! ## One step: vectors of spec/95_test_vectors.md -/

/-- V-LS-1, `LDA #$00` (R121). -/
theorem test_V_LS_1 :
    stepsTo (startAt 0x0200 [0xA9, 0x00] [] { State.reset with A := 0x55 })
      (fun s => { s with A := 0x00, Z := true, PC := 0x0202, cycles := s.cycles + 2 }) = true := by decide

/-- V-AM-4, `LDA $FFFF,X` (R108, R121): sum wraps modulo 65536; cross = 1. -/
theorem test_V_AM_4 :
    stepsTo (startAt 0x0200 [0xBD, 0xFF, 0xFF] [(0x0001, 0x99)] { State.reset with X := 0x02 })
      (fun s => { s with A := 0x99, N := true, PC := 0x0203, cycles := s.cycles + 5 }) = true := by decide

/-- V-AM-6, `LDA $FF,X` (R105, R121): DOC0 §8: ZPageX(0xFF, X=1) = 0x00, never 0x100. -/
theorem test_V_AM_6 :
    stepsTo (startAt 0x0200 [0xB5, 0xFF] [(0x0000, 0x5A), (0x0100, 0xEE)] { State.reset with X := 0x01 })
      (fun s => { s with A := 0x5A, PC := 0x0202, cycles := s.cycles + 4 }) = true := by decide

/-- V-AM-8, `LDA ($FE,X)` (R110, R121): pointer high byte from 0x0000, not 0x0100. -/
theorem test_V_AM_8 :
    stepsTo (startAt 0x0200 [0xA1, 0xFE]
        [(0x0000, 0x12), (0x00FF, 0x34), (0x0100, 0x99), (0x1234, 0xAB), (0x9934, 0xEE)]
        { State.reset with X := 0x01 })
      (fun s => { s with A := 0xAB, N := true, PC := 0x0202, cycles := s.cycles + 6 }) = true := by decide

/-- V-AM-10, `LDA ($FF),Y` (R111, R114, R121): pointer 0x20FF from 0x00FF and 0x0000; +Y crosses. -/
theorem test_V_AM_10 :
    stepsTo (startAt 0x0200 [0xB1, 0xFF]
        [(0x0000, 0x20), (0x00FF, 0xFF), (0x0100, 0x99), (0x2100, 0x5C)]
        { State.reset with Y := 0x01 })
      (fun s => { s with A := 0x5C, PC := 0x0202, cycles := s.cycles + 6 }) = true := by decide

/-- V-AM-11, `LDA ($10),Y` (R111, R114, R121): no cross, 5 cycles. -/
theorem test_V_AM_11 :
    stepsTo (startAt 0x0200 [0xB1, 0x10]
        [(0x0010, 0x00), (0x0011, 0x20), (0x2001, 0x5C)]
        { State.reset with Y := 0x01 })
      (fun s => { s with A := 0x5C, PC := 0x0202, cycles := s.cycles + 5 }) = true := by decide

/-- V-AM-16, `LDA $1234` (R83, R107, R121): operand bytes fetched at 0xFFFF and 0x0000; PC = 0x0001. -/
theorem test_V_AM_16 :
    stepsTo (startAt 0xFFFE [0xAD] [(0x0000, 0x12), (0x1234, 0x42), (0xFFFF, 0x34)] State.reset)
      (fun s => { s with A := 0x42, PC := 0x0001, cycles := s.cycles + 4 }) = true := by decide

/-- W-B9, `LDA $1234,Y` (R121, R109). -/
theorem test_W_B9 :
    stepsTo (startAt 0x0200 [0xB9, 0x34, 0x12] [(0x1244, 0xC3)] sweep)
      (fun s => { s with A := 0xC3, N := true, PC := 0x0203, cycles := s.cycles + 4 }) = true := by decide

/-- V-LS-3, `LDX #$FF` (R122). -/
theorem test_V_LS_3 :
    stepsTo (startAt 0x0200 [0xA2, 0xFF] [] State.reset)
      (fun s => { s with X := 0xFF, N := true, PC := 0x0202, cycles := s.cycles + 2 }) = true := by decide

/-- V-AM-5, `LDX $2080,Y` (R109, R122): abs,Y cross. -/
theorem test_V_AM_5 :
    stepsTo (startAt 0x0200 [0xBE, 0x80, 0x20] [(0x2100, 0x01)] { State.reset with Y := 0x80 })
      (fun s => { s with X := 0x01, PC := 0x0203, cycles := s.cycles + 5 }) = true := by decide

/-- V-AM-7, `LDX $FF,Y` (R106, R122): zp,Y wraps in page 0. -/
theorem test_V_AM_7 :
    stepsTo (startAt 0x0200 [0xB6, 0xFF] [(0x0001, 0x5A), (0x0101, 0xEE)] { State.reset with Y := 0x02 })
      (fun s => { s with X := 0x5A, PC := 0x0202, cycles := s.cycles + 4 }) = true := by decide

/-- V-LS-4, `LDY #$7F` (R123). -/
theorem test_V_LS_4 :
    stepsTo (startAt 0x0200 [0xA0, 0x7F] [] State.reset)
      (fun s => { s with Y := 0x7F, PC := 0x0202, cycles := s.cycles + 2 }) = true := by decide

/-- W-BC, `LDY $12FE,X` (R123, R108). -/
theorem test_W_BC :
    stepsTo (startAt 0x0200 [0xBC, 0xFE, 0x12] [(0x1302, 0xC3)] sweep)
      (fun s => { s with Y := 0xC3, N := true, PC := 0x0203, cycles := s.cycles + 5 }) = true := by decide

/-- V-LS-5, `STA $0200` (R124): stores over its own opcode byte; an ordinary store. -/
theorem test_V_LS_5 :
    stepsTo (startAt 0x0200 [0x8D, 0x00, 0x02] [] { State.reset with A := 0x42 })
      (fun s => poke [(0x0200, 0x42)] { s with PC := 0x0203, cycles := s.cycles + 4 }) = true := by decide

/-- V-AM-3, `STA $20FF,X` (R108, R114, R124): store: cross = 1 but not charged. -/
theorem test_V_AM_3 :
    stepsTo (startAt 0x0200 [0x9D, 0xFF, 0x20] [] { State.reset with X := 0x01, A := 0x77 })
      (fun s => poke [(0x2100, 0x77)] { s with PC := 0x0203, cycles := s.cycles + 5 }) = true := by decide

/-- V-AM-12, `STA ($10),Y` (R111, R124): store crosses, still 6. -/
theorem test_V_AM_12 :
    stepsTo (startAt 0x0200 [0x91, 0x10] [(0x0010, 0xFF), (0x0011, 0x20)] { State.reset with Y := 0x01, A := 0x66 })
      (fun s => poke [(0x2100, 0x66)] { s with PC := 0x0202, cycles := s.cycles + 6 }) = true := by decide

/-- V-LS-12, `STA $00` (R124): store of 0x00 writes no flag. -/
theorem test_V_LS_12 :
    stepsTo (startAt 0x0200 [0x85, 0x00] [] { State.reset with A := 0x00, Z := false, N := true })
      (fun s => { s with PC := 0x0202, cycles := s.cycles + 3 }) = true := by decide

/-- W-81, `STA ($70,X)` (R124, R110). -/
theorem test_W_81 :
    stepsTo (startAt 0x0200 [0x81, 0x70] [(0x0074, 0x00), (0x0075, 0x13), (0x1300, 0xC3)] sweep)
      (fun s => poke [(0x1300, 0x35)] { s with PC := 0x0202, cycles := s.cycles + 6 }) = true := by decide

/-- V-LS-6, `STX $10` (R125). -/
theorem test_V_LS_6 :
    stepsTo (startAt 0x0200 [0x86, 0x10] [] { State.reset with X := 0x07 })
      (fun s => poke [(0x0010, 0x07)] { s with PC := 0x0202, cycles := s.cycles + 3 }) = true := by decide

/-- W-96, `STX $40,Y` (R125, R106). -/
theorem test_W_96 :
    stepsTo (startAt 0x0200 [0x96, 0x40] [(0x0050, 0xC3)] sweep)
      (fun s => poke [(0x0050, 0x04)] { s with PC := 0x0202, cycles := s.cycles + 4 }) = true := by decide

/-- V-LS-7, `STY $1234` (R126). -/
theorem test_V_LS_7 :
    stepsTo (startAt 0x0200 [0x8C, 0x34, 0x12] [] { State.reset with Y := 0x99 })
      (fun s => poke [(0x1234, 0x99)] { s with PC := 0x0203, cycles := s.cycles + 4 }) = true := by decide

/-- W-94, `STY $40,X` (R126, R105). -/
theorem test_W_94 :
    stepsTo (startAt 0x0200 [0x94, 0x40] [(0x0044, 0xC3)] sweep)
      (fun s => poke [(0x0044, 0x10)] { s with PC := 0x0202, cycles := s.cycles + 4 }) = true := by decide

/-- V-LS-8, `TAX` (R127). -/
theorem test_V_LS_8 :
    stepsTo (startAt 0x0200 [0xAA] [] { State.reset with A := 0x80 })
      (fun s => { s with X := 0x80, N := true, PC := 0x0201, cycles := s.cycles + 2 }) = true := by decide

/-- V-LS-9, `TAY` (R128). -/
theorem test_V_LS_9 :
    stepsTo (startAt 0x0200 [0xA8] [] { State.reset with A := 0x00, Y := 0x33 })
      (fun s => { s with Y := 0x00, Z := true, PC := 0x0201, cycles := s.cycles + 2 }) = true := by decide

/-- V-LS-10, `TXA` (R129). -/
theorem test_V_LS_10 :
    stepsTo (startAt 0x0200 [0x8A] [] { State.reset with X := 0x01, A := 0xFF, N := true })
      (fun s => { s with A := 0x01, N := false, PC := 0x0201, cycles := s.cycles + 2 }) = true := by decide

/-- V-LS-11, `TYA` (R130). -/
theorem test_V_LS_11 :
    stepsTo (startAt 0x0200 [0x98] [] { State.reset with Y := 0xFF })
      (fun s => { s with A := 0xFF, N := true, PC := 0x0201, cycles := s.cycles + 2 }) = true := by decide

/-- V-AR-7, `ADC #$90` (R141, R152): negative + negative gives positive: V and C. -/
theorem test_V_AR_7 :
    stepsTo (startAt 0x0200 [0x69, 0x90] [] { State.reset with A := 0xD0, C := false })
      (fun s => { s with A := 0x60, V := true, C := true, PC := 0x0202, cycles := s.cycles + 2 }) = true := by decide

/-- V-AR-12, `ADC #$01` (R141, R152): D = 1 ignored: binary 0x0A, not BCD 0x10 (decision D8). -/
theorem test_V_AR_12 :
    stepsTo (startAt 0x0200 [0x69, 0x01] [] { State.reset with A := 0x09, C := false, D := true })
      (fun s => { s with A := 0x0A, PC := 0x0202, cycles := s.cycles + 2 }) = true := by decide

/-- W-71, `ADC ($60),Y` (R141, R111). -/
theorem test_W_71 :
    stepsTo (startAt 0x0200 [0x71, 0x60] [(0x0060, 0xF8), (0x0061, 0x12), (0x1308, 0xC3)] sweep)
      (fun s => { s with A := 0xF9, N := true, C := false, PC := 0x0202, cycles := s.cycles + 6 }) = true := by decide

/-- V-AR-14, `SBC #$B0` (R142, R152): SBC overflow: 0x50 - (-0x50). -/
theorem test_V_AR_14 :
    stepsTo (startAt 0x0200 [0xE9, 0xB0] [] { State.reset with A := 0x50, C := true })
      (fun s => { s with A := 0xA0, N := true, V := true, C := false, PC := 0x0202, cycles := s.cycles + 2 }) =
      true := by decide

/-- V-AR-22, `SBC #$01` (R142, R152): D = 1 ignored: 0x0F, not BCD 0x09. -/
theorem test_V_AR_22 :
    stepsTo (startAt 0x0200 [0xE9, 0x01] [] { State.reset with A := 0x10, C := true, D := true })
      (fun s => { s with A := 0x0F, PC := 0x0202, cycles := s.cycles + 2 }) = true := by decide

/-- W-E5, `SBC $40` (R142, R104). -/
theorem test_W_E5 :
    stepsTo (startAt 0x0200 [0xE5, 0x40] [(0x0040, 0xC3)] sweep)
      (fun s => { s with A := 0x72, C := false, PC := 0x0202, cycles := s.cycles + 3 }) = true := by decide

/-- V-AR-24, `CMP #$41` (R143, R153): register smaller: C = 0, N from 0xFF. -/
theorem test_V_AR_24 :
    stepsTo (startAt 0x0200 [0xC9, 0x41] [] { State.reset with A := 0x40 })
      (fun s => { s with N := true, PC := 0x0202, cycles := s.cycles + 2 }) = true := by decide

/-- V-AR-26, `CMP #$FF` (R143, R153): 0x00 - 0xFF = 0x01; V untouched. -/
theorem test_V_AR_26 :
    stepsTo (startAt 0x0200 [0xC9, 0xFF] [] { State.reset with A := 0x00, V := true })
      (fun s => { s with PC := 0x0202, cycles := s.cycles + 2 }) = true := by decide

/-- W-DD, `CMP $12FE,X` (R143, R108). -/
theorem test_W_DD :
    stepsTo (startAt 0x0200 [0xDD, 0xFE, 0x12] [(0x1302, 0xC3)] sweep)
      (fun s => { s with C := false, PC := 0x0203, cycles := s.cycles + 5 }) = true := by decide

/-- V-AR-27, `CPX #$10` (R144, R153). -/
theorem test_V_AR_27 :
    stepsTo (startAt 0x0200 [0xE0, 0x10] [] { State.reset with X := 0x0F })
      (fun s => { s with N := true, PC := 0x0202, cycles := s.cycles + 2 }) = true := by decide

/-- W-E4, `CPX $40` (R144, R104). -/
theorem test_W_E4 :
    stepsTo (startAt 0x0200 [0xE4, 0x40] [(0x0040, 0xC3)] sweep)
      (fun s => { s with C := false, PC := 0x0202, cycles := s.cycles + 3 }) = true := by decide

/-- V-AR-28, `CPY #$00` (R145, R153). -/
theorem test_V_AR_28 :
    stepsTo (startAt 0x0200 [0xC0, 0x00] [] { State.reset with Y := 0x00, C := false })
      (fun s => { s with Z := true, C := true, PC := 0x0202, cycles := s.cycles + 2 }) = true := by decide

/-- W-CC, `CPY $1234` (R145, R107). -/
theorem test_W_CC :
    stepsTo (startAt 0x0200 [0xCC, 0x34, 0x12] [(0x1234, 0xC3)] sweep)
      (fun s => { s with C := false, PC := 0x0203, cycles := s.cycles + 4 }) = true := by decide

/-- V-AR-29, `INC $10` (R146): wraps to 0x00; C untouched. -/
theorem test_V_AR_29 :
    stepsTo (startAt 0x0200 [0xE6, 0x10] [(0x0010, 0xFF)] State.reset)
      (fun s => poke [(0x0010, 0x00)] { s with Z := true, PC := 0x0202, cycles := s.cycles + 5 }) = true := by decide

/-- W-FE, `INC $12FE,X` (R146, R108). -/
theorem test_W_FE :
    stepsTo (startAt 0x0200 [0xFE, 0xFE, 0x12] [(0x1302, 0xC3)] sweep)
      (fun s => poke [(0x1302, 0xC4)] { s with N := true, PC := 0x0203, cycles := s.cycles + 7 }) = true := by decide

/-- V-AR-31, `DEC $10` (R149): wraps to 0xFF. -/
theorem test_V_AR_31 :
    stepsTo (startAt 0x0200 [0xC6, 0x10] [(0x0010, 0x00)] State.reset)
      (fun s => poke [(0x0010, 0xFF)] { s with N := true, PC := 0x0202, cycles := s.cycles + 5 }) = true := by decide

/-- V-AR-32, `DEC $30FF,X` (R149): 7 cycles crossed or not. -/
theorem test_V_AR_32 :
    stepsTo (startAt 0x0200 [0xDE, 0xFF, 0x30] [(0x3100, 0x01)] { State.reset with X := 0x01 })
      (fun s => poke [(0x3100, 0x00)] { s with Z := true, PC := 0x0203, cycles := s.cycles + 7 }) = true := by decide

/-- V-AR-33, `INX` (R147). -/
theorem test_V_AR_33 :
    stepsTo (startAt 0x0200 [0xE8] [] { State.reset with X := 0xFF })
      (fun s => { s with X := 0x00, Z := true, PC := 0x0201, cycles := s.cycles + 2 }) = true := by decide

/-- V-AR-34, `INY` (R148). -/
theorem test_V_AR_34 :
    stepsTo (startAt 0x0200 [0xC8] [] { State.reset with Y := 0x7F })
      (fun s => { s with Y := 0x80, N := true, PC := 0x0201, cycles := s.cycles + 2 }) = true := by decide

/-- V-AR-35, `DEX` (R150). -/
theorem test_V_AR_35 :
    stepsTo (startAt 0x0200 [0xCA] [] { State.reset with X := 0x00 })
      (fun s => { s with X := 0xFF, N := true, PC := 0x0201, cycles := s.cycles + 2 }) = true := by decide

/-- V-AR-36, `DEY` (R151). -/
theorem test_V_AR_36 :
    stepsTo (startAt 0x0200 [0x88] [] { State.reset with Y := 0x01 })
      (fun s => { s with Y := 0x00, Z := true, PC := 0x0201, cycles := s.cycles + 2 }) = true := by decide

/-- V-LG-1, `AND #$0F` (R161). -/
theorem test_V_LG_1 :
    stepsTo (startAt 0x0200 [0x29, 0x0F] [] { State.reset with A := 0xF0 })
      (fun s => { s with A := 0x00, Z := true, PC := 0x0202, cycles := s.cycles + 2 }) = true := by decide

/-- W-21, `AND ($70,X)` (R161, R110). -/
theorem test_W_21 :
    stepsTo (startAt 0x0200 [0x21, 0x70] [(0x0074, 0x00), (0x0075, 0x13), (0x1300, 0xC3)] sweep)
      (fun s => { s with A := 0x01, PC := 0x0202, cycles := s.cycles + 6 }) = true := by decide

/-- V-LG-3, `ORA #$80` (R162). -/
theorem test_V_LG_3 :
    stepsTo (startAt 0x0200 [0x09, 0x80] [] { State.reset with A := 0x01 })
      (fun s => { s with A := 0x81, N := true, PC := 0x0202, cycles := s.cycles + 2 }) = true := by decide

/-- W-11, `ORA ($60),Y` (R162, R111). -/
theorem test_W_11 :
    stepsTo (startAt 0x0200 [0x11, 0x60] [(0x0060, 0xF8), (0x0061, 0x12), (0x1308, 0xC3)] sweep)
      (fun s => { s with A := 0xF7, N := true, PC := 0x0202, cycles := s.cycles + 6 }) = true := by decide

/-- V-LG-5, `EOR #$FF` (R163). -/
theorem test_V_LG_5 :
    stepsTo (startAt 0x0200 [0x49, 0xFF] [] { State.reset with A := 0x0F })
      (fun s => { s with A := 0xF0, N := true, PC := 0x0202, cycles := s.cycles + 2 }) = true := by decide

/-- W-59, `EOR $1234,Y` (R163, R109). -/
theorem test_W_59 :
    stepsTo (startAt 0x0200 [0x59, 0x34, 0x12] [(0x1244, 0xC3)] sweep)
      (fun s => { s with A := 0xF6, N := true, PC := 0x0203, cycles := s.cycles + 4 }) = true := by decide

/-- V-LG-7, `BIT $10` (R164): Z from A AND m = 0; N, V from m. -/
theorem test_V_LG_7 :
    stepsTo (startAt 0x0200 [0x24, 0x10] [(0x0010, 0xC0)] { State.reset with A := 0x01 })
      (fun s => { s with N := true, V := true, Z := true, PC := 0x0202, cycles := s.cycles + 3 }) = true := by decide

/-- V-LG-8, `BIT $10` (R164): N, V cleared from m; A unchanged. -/
theorem test_V_LG_8 :
    stepsTo (startAt 0x0200 [0x24, 0x10] [(0x0010, 0x3F)] { State.reset with A := 0xFF, N := true, V := true })
      (fun s => { s with N := false, V := false, PC := 0x0202, cycles := s.cycles + 3 }) = true := by decide

/-- V-LG-11, `ASL A` (R165): carry in is not shifted in. -/
theorem test_V_LG_11 :
    stepsTo (startAt 0x0200 [0x0A] [] { State.reset with A := 0x41, C := true })
      (fun s => { s with A := 0x82, N := true, C := false, PC := 0x0201, cycles := s.cycles + 2 }) = true := by decide

/-- V-LG-12, `ASL $10` (R165, R169): memory form; A untouched. -/
theorem test_V_LG_12 :
    stepsTo (startAt 0x0200 [0x06, 0x10] [(0x0010, 0xC0)] State.reset)
      (fun s => poke [(0x0010, 0x80)] { s with N := true, C := true, PC := 0x0202, cycles := s.cycles + 5 }) =
      true := by decide

/-- V-LG-14, `LSR A` (R166): N always 0 after LSR. -/
theorem test_V_LG_14 :
    stepsTo (startAt 0x0200 [0x4A] [] { State.reset with A := 0x80, N := true, C := true })
      (fun s => { s with A := 0x40, N := false, C := false, PC := 0x0201, cycles := s.cycles + 2 }) = true := by decide

/-- V-LG-15, `LSR $3000` (R166, R169). -/
theorem test_V_LG_15 :
    stepsTo (startAt 0x0200 [0x4E, 0x00, 0x30] [(0x3000, 0xFF)] State.reset)
      (fun s => poke [(0x3000, 0x7F)] { s with C := true, PC := 0x0203, cycles := s.cycles + 6 }) = true := by decide

/-- V-LG-16, `ROL A` (R167). -/
theorem test_V_LG_16 :
    stepsTo (startAt 0x0200 [0x2A] [] { State.reset with A := 0x80, C := true })
      (fun s => { s with A := 0x01, PC := 0x0201, cycles := s.cycles + 2 }) = true := by decide

/-- V-LG-18, `ROL $10,X` (R167, R169): zp,X wraps to 0x0000. -/
theorem test_V_LG_18 :
    stepsTo (startAt 0x0200 [0x36, 0x10] [(0x0000, 0x00)] { State.reset with X := 0xF0, C := true })
      (fun s => poke [(0x0000, 0x01)] { s with C := false, PC := 0x0202, cycles := s.cycles + 6 }) = true := by decide

/-- V-LG-20, `ROR A` (R168). -/
theorem test_V_LG_20 :
    stepsTo (startAt 0x0200 [0x6A] [] { State.reset with A := 0x00, C := true })
      (fun s => { s with A := 0x80, N := true, C := false, PC := 0x0201, cycles := s.cycles + 2 }) = true := by decide

/-- V-LG-21, `ROR $30FF,X` (R168, R169): 7 cycles, no penalty. -/
theorem test_V_LG_21 :
    stepsTo (startAt 0x0200 [0x7E, 0xFF, 0x30] [(0x3100, 0x03)] { State.reset with X := 0x01, C := true })
      (fun s => poke [(0x3100, 0x81)] { s with N := true, PC := 0x0203, cycles := s.cycles + 7 }) = true := by decide

/-- V-BR-11, `BEQ $0302` (R178, R175): instruction in page 0x02, next = 0x0300, target 0x0302: no page penalty (decision
D12). -/
theorem test_V_BR_11 :
    stepsTo (startAt 0x02FE [0xF0, 0x02] [] { State.reset with Z := true })
      (fun s => { s with PC := 0x0302, cycles := s.cycles + 3 }) = true := by decide

/-- V-BR-12, `BEQ $02FF` (R178, R175): next = 0x0300, target 0x02FF: page penalty although the target is in the
instruction's own page (decision D12). -/
theorem test_V_BR_12 :
    stepsTo (startAt 0x02FE [0xF0, 0xFF] [] { State.reset with Z := true })
      (fun s => { s with PC := 0x02FF, cycles := s.cycles + 4 }) = true := by decide

/-- V-BR-4, `BNE $02FE` (R179, R175): next = 0x0302, target 0x02FE: crosses, 4. -/
theorem test_V_BR_4 :
    stepsTo (startAt 0x0300 [0xD0, 0xFC] [] { State.reset with Z := false })
      (fun s => { s with PC := 0x02FE, cycles := s.cycles + 4 }) = true := by decide

/-- V-BR-13, `BCC $0071` (R176, R175): target wraps past 0xFFFF to 0x0071; pages differ. -/
theorem test_V_BR_13 :
    stepsTo (startAt 0xFFF0 [0x90, 0x7F] [] { State.reset with C := false })
      (fun s => { s with PC := 0x0071, cycles := s.cycles + 4 }) = true := by decide

/-- V-BR-6, `BCS $0202` (R177, R175): offset 0x80 = -128: next 0x0282, target 0x0202, same page. -/
theorem test_V_BR_6 :
    stepsTo (startAt 0x0280 [0xB0, 0x80] [] { State.reset with C := true })
      (fun s => { s with PC := 0x0202, cycles := s.cycles + 3 }) = true := by decide

/-- V-BR-14, `BCS $0212` (R177, R175): BCS not taken. -/
theorem test_V_BR_14 :
    stepsTo (startAt 0x0200 [0xB0, 0x10] [] { State.reset with C := false })
      (fun s => { s with PC := 0x0202, cycles := s.cycles + 2 }) = true := by decide

/-- V-BR-7, `BMI $0202` (R180, R175): offset 0: target = next, still costs the taken cycle. -/
theorem test_V_BR_7 :
    stepsTo (startAt 0x0200 [0x30, 0x00] [] { State.reset with N := true })
      (fun s => { s with PC := 0x0202, cycles := s.cycles + 3 }) = true := by decide

/-- V-BR-8, `BPL $0207` (R181, R175): BPL not taken. -/
theorem test_V_BR_8 :
    stepsTo (startAt 0x0200 [0x10, 0x05] [] { State.reset with N := true })
      (fun s => { s with PC := 0x0202, cycles := s.cycles + 2 }) = true := by decide

/-- V-BR-9, `BVC $0207` (R182, R175). -/
theorem test_V_BR_9 :
    stepsTo (startAt 0x0200 [0x50, 0x05] [] { State.reset with V := false })
      (fun s => { s with PC := 0x0207, cycles := s.cycles + 3 }) = true := by decide

/-- V-BR-10, `BVS $0207` (R183, R175). -/
theorem test_V_BR_10 :
    stepsTo (startAt 0x0200 [0x70, 0x05] [] { State.reset with V := true })
      (fun s => { s with PC := 0x0207, cycles := s.cycles + 3 }) = true := by decide

/-- V-BR-15, `JMP $0200` (R184): JMP to itself. -/
theorem test_V_BR_15 :
    stepsTo (startAt 0x0200 [0x4C, 0x00, 0x02] [] State.reset)
      (fun s => { s with PC := 0x0200, cycles := s.cycles + 3 }) = true := by decide

/-- V-AM-13, `JMP ($30FF)` (R112, R184): DOC0 §8: high byte from 0x3000, not 0x3100 (byte values chosen by this spec).
-/
theorem test_V_AM_13 :
    stepsTo (startAt 0x0200 [0x6C, 0xFF, 0x30] [(0x3000, 0x12), (0x30FF, 0x34), (0x3100, 0x99)] State.reset)
      (fun s => { s with PC := 0x1234, cycles := s.cycles + 5 }) = true := by decide

/-- V-BR-17, `JSR $3000` (R185): SP wraps: high at 0x0100, low at 0x01FF. -/
theorem test_V_BR_17 :
    stepsTo (startAt 0x0200 [0x20, 0x00, 0x30] [] { State.reset with SP := 0x00 })
      (fun s => poke [(0x0100, 0x02), (0x01FF, 0x02)] { s with SP := 0xFE, PC := 0x3000, cycles := s.cycles + 6 }) =
      true := by decide

/-- V-BR-19, `RTS` (R186): pull wraps in the stack page; 0xFFFF + 1 wraps to 0x0000. -/
theorem test_V_BR_19 :
    stepsTo (startAt 0x3000 [0x60] [(0x0100, 0xFF), (0x01FF, 0xFF)] { State.reset with SP := 0xFE })
      (fun s => { s with SP := 0x00, PC := 0x0000, cycles := s.cycles + 6 }) = true := by decide

/-- V-ST-2, `PHA` (R195): SP wraps to 0xFF. -/
theorem test_V_ST_2 :
    stepsTo (startAt 0x0200 [0x48] [] { State.reset with A := 0x42, SP := 0x00 })
      (fun s => poke [(0x0100, 0x42)] { s with SP := 0xFF, PC := 0x0201, cycles := s.cycles + 3 }) = true := by decide

/-- V-ST-5, `PHP` (R196): stored B = 1: pushed byte is 0x30 all the same. -/
theorem test_V_ST_5 :
    stepsTo (startAt 0x0200 [0x08] [] { State.reset with B := true, I := false })
      (fun s => poke [(0x01FD, 0x30)] { s with SP := 0xFC, PC := 0x0201, cycles := s.cycles + 3 }) = true := by decide

/-- V-ST-7, `PLA` (R197): SP wraps to 0x00. -/
theorem test_V_ST_7 :
    stepsTo (startAt 0x0200 [0x68] [(0x0100, 0x80)] { State.reset with SP := 0xFF })
      (fun s => { s with A := 0x80, SP := 0x00, N := true, PC := 0x0201, cycles := s.cycles + 4 }) = true := by decide

/-- V-ST-10, `PLP` (R198): all six cleared; B stays 1. -/
theorem test_V_ST_10 :
    stepsTo (startAt 0x0200 [0x28] [(0x01FF, 0x00)] { State.reset with SP := 0xFE, B := true, C := true, N := true })
      (fun s => { s with SP := 0xFF, N := false, I := false, C := false, PC := 0x0201, cycles := s.cycles + 4 }) =
      true := by decide

/-- V-ST-11, `TSX` (R199). -/
theorem test_V_ST_11 :
    stepsTo (startAt 0x0200 [0xBA] [] State.reset)
      (fun s => { s with X := 0xFD, N := true, PC := 0x0201, cycles := s.cycles + 2 }) = true := by decide

/-- V-ST-13, `TXS` (R200): X = 0 and still Z unchanged. -/
theorem test_V_ST_13 :
    stepsTo (startAt 0x0200 [0x9A] [] { State.reset with X := 0x00, Z := false })
      (fun s => { s with SP := 0x00, PC := 0x0201, cycles := s.cycles + 2 }) = true := by decide

/-- V-CT-1, `CLC` (R205). -/
theorem test_V_CT_1 :
    stepsTo (startAt 0x0200 [0x18] [] { State.reset with C := true })
      (fun s => { s with C := false, PC := 0x0201, cycles := s.cycles + 2 }) = true := by decide

/-- V-CT-2, `SEC` (R206). -/
theorem test_V_CT_2 :
    stepsTo (startAt 0x0200 [0x38] [] State.reset)
      (fun s => { s with C := true, PC := 0x0201, cycles := s.cycles + 2 }) = true := by decide

/-- V-CT-3, `CLI` (R207). -/
theorem test_V_CT_3 :
    stepsTo (startAt 0x0200 [0x58] [] State.reset)
      (fun s => { s with I := false, PC := 0x0201, cycles := s.cycles + 2 }) = true := by decide

/-- V-CT-4, `SEI` (R208). -/
theorem test_V_CT_4 :
    stepsTo (startAt 0x0200 [0x78] [] { State.reset with I := false })
      (fun s => { s with I := true, PC := 0x0201, cycles := s.cycles + 2 }) = true := by decide

/-- V-CT-5, `CLD` (R209). -/
theorem test_V_CT_5 :
    stepsTo (startAt 0x0200 [0xD8] [] { State.reset with D := true })
      (fun s => { s with D := false, PC := 0x0201, cycles := s.cycles + 2 }) = true := by decide

/-- V-CT-6, `SED` (R210). -/
theorem test_V_CT_6 :
    stepsTo (startAt 0x0200 [0xF8] [] State.reset)
      (fun s => { s with D := true, PC := 0x0201, cycles := s.cycles + 2 }) = true := by decide

/-- V-CT-7, `CLV` (R211). -/
theorem test_V_CT_7 :
    stepsTo (startAt 0x0200 [0xB8] [] { State.reset with V := true })
      (fun s => { s with V := false, PC := 0x0201, cycles := s.cycles + 2 }) = true := by decide

/-- V-AM-15, `NOP` (R85, R26): PC wraps to 0x0000. -/
theorem test_V_AM_15 :
    stepsTo (startAt 0xFFFF [0xEA] [] State.reset)
      (fun s => { s with PC := 0x0000, cycles := s.cycles + 2 }) = true := by decide

/-- V-CT-10, `BRK` (R214): stack wraps: 0x0101, 0x0100, 0x01FF. -/
theorem test_V_CT_10 :
    stepsTo (startAt 0x0300 [0x00] [(0xFFFE, 0x00), (0xFFFF, 0x80)] { State.reset with SP := 0x01 })
      (fun s => poke [(0x0100, 0x02), (0x0101, 0x03), (0x01FF, 0x34)] { s with SP := 0xFE, B := true, PC := 0x8000, cycles := s.cycles + 7 }) =
      true := by decide

/-- V-CT-11, `BRK` (R214): BRK at 0xFFFF pushes 0x0001; the vector's high byte is the cell holding the BRK opcode
itself. -/
theorem test_V_CT_11 :
    stepsTo (startAt 0xFFFF [0x00] [(0xFFFE, 0x40)] State.reset)
      (fun s => poke [(0x01FB, 0x34), (0x01FC, 0x01)] { s with SP := 0xFA, B := true, PC := 0x0040, cycles := s.cycles + 7 }) =
      true := by decide

/-- V-CT-12, `RTI` (R215, R229): I restored to 0; B stays 1. -/
theorem test_V_CT_12 :
    stepsTo (startAt 0x8000 [0x40]
        [(0x01FB, 0x33), (0x01FC, 0x02), (0x01FD, 0x03)]
        { State.reset with SP := 0xFA, B := true })
      (fun s => { s with SP := 0xFD, I := false, Z := true, C := true, PC := 0x0302, cycles := s.cycles + 6 }) =
      true := by decide

/-- V-CT-13, `RTI` (R215): pulls wrap in the stack page. -/
theorem test_V_CT_13 :
    stepsTo (startAt 0x8000 [0x40] [(0x0100, 0x34), (0x0101, 0x12), (0x01FF, 0xFF)] { State.reset with SP := 0xFE })
      (fun s => { s with SP := 0x01, N := true, V := true, D := true, Z := true, C := true, PC := 0x1234, cycles := s.cycles + 6 }) =
      true := by decide

/-! ## Status byte conversions, memory and stack primitives -/

/-- V-P-1 to V-P-6 (R37). -/
theorem test_packP :
    packP { State.reset with I := false } = 0x30 ∧ packP State.reset = 0x34 ∧
    packP { State.reset with N := true, V := true, D := true, Z := true, C := true } = 0xFF ∧
    packP { State.reset with I := false, B := true } = 0x30 ∧
    packP { State.reset with I := false, N := true, C := true } = 0xB1 ∧
    packP { State.reset with I := false, V := true, Z := true } = 0x72 := by decide

/-- V-P-9 and V-P-11 (R38): bits 5 and 4 are discarded. -/
theorem test_unpackP :
    unpackP { State.reset with B := true } 0x30 = { State.reset with I := false, B := true } ∧
    unpackP State.reset 0xC3 =
      { State.reset with N := true, V := true, I := false, Z := true, C := true } := by decide

/-- V-MEM-1 and V-MEM-3 (R53): a word read wraps at 0xFFFF and not at a page end. -/
theorem test_readWord :
    (poke [(0xFFFF, 0x34), (0x0000, 0x12)] State.reset).readWord 0xFFFF = 0x1234 ∧
    (poke [(0x00FF, 0x34), (0x0100, 0x12)] State.reset).readWord 0x00FF = 0x1234 := by decide

/-- V-MEM-2 (R54, D15). -/
theorem test_writeWord_wraps :
    State.reset.writeWord 0xFFFF 0xABCD = poke [(0xFFFF, 0xCD), (0x0000, 0xAB)] State.reset := by decide

/-- V-MEM-4 and V-MEM-5 (R63, R64). -/
theorem test_push8_pop8_wrap :
    ({ State.reset with SP := 0x00 } : State).push8 0x7E = poke [(0x0100, 0x7E)] { State.reset with SP := 0xFF } ∧
    (poke [(0x0100, 0x7E)] { State.reset with SP := 0xFF }).top8 = 0x7E ∧
    (poke [(0x0100, 0x7E)] { State.reset with SP := 0xFF }).drop8.SP = 0x00 := by decide

/-- V-MEM-6 to V-MEM-10 (R65, R66). -/
theorem test_push16_pop16 :
    State.reset.push16 0x1234 = poke [(0x01FD, 0x12), (0x01FC, 0x34)] { State.reset with SP := 0xFB } ∧
    ({ State.reset with SP := 0x00 } : State).push16 0xBEEF =
      poke [(0x0100, 0xBE), (0x01FF, 0xEF)] { State.reset with SP := 0xFE } ∧
    (poke [(0x01FF, 0xEF), (0x0100, 0xBE)] { State.reset with SP := 0xFE }).top16 = 0xBEEF ∧
    (poke [(0x0100, 0xEF), (0x0101, 0xBE)] { State.reset with SP := 0xFF }).top16 = 0xBEEF ∧
    (poke [(0x0100, 0xEF), (0x0101, 0xBE)] { State.reset with SP := 0xFF }).drop16.SP = 0x01 := by decide

/-- Writing 0x00 removes the entry, and entries stay in order: the canonical form. -/
theorem test_memory_canonical :
    Memory.write (Memory.write (Memory.write [] 0x0300 0x77) 0x0200 0x42) 0x0300 0x00 = [(0x0200, 0x42)] ∧
    Memory.wf [(0x0200, 0x42), (0x0300, 0x77)] = true ∧ Memory.wf [(0x0300, 0x77), (0x0200, 0x42)] = false ∧
    Memory.wf [(0x0200, 0x00)] = false ∧ Memory.wf [(0x10000, 0x42)] = false := by decide

/-! ## The fault, the host events -/

/-- V-EX-1 (R85, R91, R224): only the latch changes. -/
theorem test_V_EX_1 :
    stepsTo (startAt 0x0200 [0x02] [] State.reset) (fun s => { s with fault := some (.illegalOpcode 0x02 0x0200) }) =
      true := by decide

/-- V-EX-2 (R85, R224): with the latch set the step is refused, with the latched fault. -/
theorem test_V_EX_2 :
    faultIs (step { startAt 0x0200 [0x02] [] State.reset with fault := some (.illegalOpcode 0x02 0x0200) })
      (.illegalOpcode 0x02 0x0200) = true := by decide

/-- V-EX-3 (R224, R252): Reset clears the latch and keeps memory. -/
theorem test_V_EX_3 :
    warmReset { startAt 0x0200 [0x02] [(0xFFFC, 0x00), (0xFFFD, 0x06)] State.reset with
        fault := some (.illegalOpcode 0x02 0x0200) } =
      (startAt 0x0200 [0x02] [(0xFFFC, 0x00), (0xFFFD, 0x06)] State.reset).setPC 0x0600 := by decide

/-- R89, R91, R95: the bytes without a base cost are the bytes without a row. -/
theorem test_base_cycles_cover_the_map : ∀ op : Byte, Config.baseCycles op = 0 ↔ op ∈ illegalOpcodes := by decide

/-- R95: one entry of each base cost, by class: INX 2, PHA 3, LDA absolute,X 4, STA absolute,X 5, JSR 6, ASL absolute,X 7. -/
theorem test_base_cycles_by_class :
    Config.baseCycles 0xE8 = 2 ∧ Config.baseCycles 0x48 = 3 ∧ Config.baseCycles 0xBD = 4 ∧ Config.baseCycles 0x9D = 5 ∧
    Config.baseCycles 0x20 = 6 ∧ Config.baseCycles 0x1E = 7 := by decide

/-- V-EX-4 (R91): bytes that the silicon executes are no instructions here. -/
theorem test_V_EX_4 :
    decode [0xEB, 0x00, 0x00] = .error (.illegalOpcode 0xEB) ∧ decode [0x1A] = .error (.illegalOpcode 0x1A) ∧
    decode [0x80, 0x00] = .error (.illegalOpcode 0x80) ∧ decode [0x04, 0x00] = .error (.illegalOpcode 0x04) ∧
    decode [0x0C, 0x00, 0x00] = .error (.illegalOpcode 0x0C) := by decide

/-- V-EX-5 (R224, R266): a faulting step adds no cycles. -/
theorem test_V_EX_5 :
    stepsTo (startAt 0x0200 [0xFF] [] { State.reset with A := 0x7F, cycles := 100 })
      (fun s => { s with fault := some (.illegalOpcode 0xFF 0x0200) }) = true := by decide

/-- V-RS-1 and V-RS-2 (R250, R251). -/
theorem test_V_RS_1 :
    powerUp (poke [(0x0300, 0x77)] { State.reset with A := 0x12, PC := 0x4567, N := true, cycles := 9 }) =
      State.reset := by decide

/-- V-RS-3 (R252, R258). -/
theorem test_V_RS_3 :
    nextIs (runEvents [.powerUp, .hostWrite 0xFFFC 0x00, .hostWrite 0xFFFD 0x80, .reset] sweep)
      (poke [(0xFFFD, 0x80)] { State.reset with PC := 0x8000 }) = true := by decide

/-- V-RS-4 (R252). -/
theorem test_V_RS_4 :
    warmReset (poke [(0x0010, 0xAA), (0xFFFC, 0x34), (0xFFFD, 0x12)]
        { State.reset with
          A := 0x12, X := 0x34, Y := 0x56, SP := 0x10, cycles := 999
          C := true, Z := true, D := true, B := true, V := true, N := true }) =
      poke [(0x0010, 0xAA), (0xFFFC, 0x34), (0xFFFD, 0x12)] { State.reset with PC := 0x1234 } := by decide

/-- V-RS-5 and V-RS-6 (R258, R261). -/
theorem test_V_RS_5_6 :
    resetCycles { State.reset with cycles := 140 } = State.reset ∧
    replyTo .readCycles { State.reset with cycles := 140 } = .count 140 ∧
    replyTo (.hostRead 0x0200) (poke [(0x0200, 0x42)] State.reset) = .byte 0x42 := by decide

/-- P9 (R251, R214): with nothing loaded the first step is BRK at 0x0000, through the vector 0x0000. -/
theorem test_P9_first_step :
    stepsTo State.reset
      (fun s => poke [(0x01FC, 0x02), (0x01FB, 0x34)] { s with SP := 0xFA, B := true, cycles := 7 }) = true := by decide

/-- What is placed where the step fetches is what the step runs: `LDA $1234,X` with X = 0 (R80, R83). -/
theorem test_withFetchWord :
    decodeTableWord 24 0x1234BD = some (.ldaAbsX 0x1234) ∧
    stepsTo (State.reset.withFetchWord 24 0x1234BD) (fun s => { s with PC := 0x0003, Z := true, cycles := 4 }) = true := by
  decide

/-- The examples of R93. -/
theorem test_assembler_text :
    assemblerText 0x0000 .clc = ['C', 'L', 'C'] ∧ assemblerText 0x0000 .aslAcc = ['A', 'S', 'L', ' ', 'A'] ∧
    assemblerText 0x0000 (.ldaImm 0x10) = ['L', 'D', 'A', ' ', '#', '$', '1', '0'] ∧
    assemblerText 0x0000 (.ldxZpY 0x10) = ['L', 'D', 'X', ' ', '$', '1', '0', ',', 'Y'] ∧
    assemblerText 0x0000 (.ldaAbsX 0x1234) = ['L', 'D', 'A', ' ', '$', '1', '2', '3', '4', ',', 'X'] ∧
    assemblerText 0x0000 (.ldaIndY 0x10) = ['L', 'D', 'A', ' ', '(', '$', '1', '0', ')', ',', 'Y'] ∧
    assemblerText 0x0200 (.beq 0x0E) = ['B', 'E', 'Q', ' ', '$', '0', '2', '1', '0'] := by decide

/-- The branch example of R93, and a distance that is rejected. -/
theorem test_branch_offset :
    branchOffset 0x0200 0x0210 = some 0x0E ∧ branchOffset 0x0280 0x0202 = some 0x80 ∧
    branchOffset 0x0200 0x0282 = none := by decide

/-! ## Witnesses: for every statement with hypotheses, a state and operands that meet all of them, for each clause -/

theorem nextIs_sound {r : Result} {t : State} (h : nextIs r t = true) : r = .next t := by
  cases r with
  | next s => rw [of_decide_eq_true h]
  | fault f => cases h
  | refused f => cases h

/-- A running machine in front of `LDA #$42`. -/
def running : State := startAt 0x0200 [0xA9, 0x42] [] State.reset

/-- A running machine in front of a byte that is no opcode, at the top of memory. -/
def illegal : State := startAt 0xFFFF [0xFF] [] State.reset

/-- A stopped machine. -/
def stopped : State := { illegal with fault := some (.illegalOpcode 0xFF 0xFFFF) }

theorem witness_EncodeDecodeRoundTrip : decode [0xBD, 0x34, 0x12, 0xEA] = .ok (.ldaAbsX 0x1234, [0xEA]) := by decide

theorem witness_DecodingIsTotalAndByOpcode_illegal :
    (0x02 : Byte) ∈ illegalOpcodes ∧ (0xFF : Byte) ∈ illegalOpcodes := by
  decide

theorem witness_DecodingIsTotalAndByOpcode_legal :
    (0x00 : Byte) ∉ illegalOpcodes ∧ (0xFE : Byte) ∉ illegalOpcodes := by
  decide

theorem witness_DecodingIsTotalAndByOpcode_lengths :
    decode ([0x00] ++ [0xEA]) = .ok (.brk, [0xEA]) ∧ decode ([0xA9, 0xFF] ++ []) = .ok (.ldaImm 0xFF, []) ∧
    decode ([0xFE, 0x34, 0x12] ++ []) = .ok (.incAbsX 0x1234, []) ∧
    decode [0xFE, 0x34] = .error (.truncated 0xFE) ∧ decode [0xA9] = .error (.truncated 0xA9) := by decide

theorem witness_StepRunsTheDecodedInstruction :
    running.fault = none ∧
    decode [running.readByte running.PC, running.readByte (running.PC + 1), running.readByte (running.PC + 2)] =
      .ok (.ldaImm 0x42, [0x00]) := by decide

theorem witness_StoredInstructionIsFetchedAndRun : running.mem.wf = true ∧ running.fault = none := by decide

theorem witness_IllegalOpcodeSetsTheLatchOnly_fetch :
    illegal.fault = none ∧ illegal.readByte illegal.PC ∈ illegalOpcodes := by decide

theorem witness_IllegalOpcodeSetsTheLatchOnly_stopped : stopped.fault = some (.illegalOpcode 0xFF 0xFFFF) := by decide

theorem witness_IllegalOpcodeSetsTheLatchOnly_event :
    stopped.fault = some (.illegalOpcode 0xFF 0xFFFF) ∧
    applyEvent (.hostWrite 0xFFFF 0xEA) stopped = .next (hostWrite 0xFFFF 0xEA stopped) ∧
    HostEvent.hostWrite 0xFFFF 0xEA ≠ .powerUp ∧ HostEvent.hostWrite 0xFFFF 0xEA ≠ .reset :=
  ⟨by decide, rfl, by decide, by decide⟩

theorem running_steps : step running = .next { running with A := 0x42, PC := 0x0202, cycles := 2 } :=
  nextIs_sound (by decide)

theorem illegal_steps : step illegal = .next stopped := nextIs_sound (by decide)

theorem witness_StepKeepsMemoryCanonical :
    Canonical running ∧ step running = .next { running with A := 0x42, PC := 0x0202, cycles := 2 } :=
  ⟨by decide, running_steps⟩

theorem witness_HostRunsKeepMemoryCanonical :
    Canonical running ∧ runEvents [.hostWrite 0xFFFF 0x12, .hostRead 0x0000] running =
      .next (hostWrite 0xFFFF 0x12 running) :=
  ⟨by decide, rfl⟩

theorem witness_OnlyTheirWritersChangeRegisters :
    (∃ t, exec .nop sweep = .next t) ∧ (∃ t, exec (.aslZp 0x40) sweep = .next t) ∧
    Instr.nop.mnemonic ∉ [Mnemonic.lda, .txa, .tya, .pla, .adc, .sbc, .and, .ora, .eor] ∧
    (Instr.aslZp 0x40).mnemonic ∉ [Mnemonic.lda, .txa, .tya, .pla, .adc, .sbc, .and, .ora, .eor] ∧
    (Instr.aslZp 0x40).format ≠ .accumulator ∧ Instr.nop.format ≠ .accumulator ∧
    Instr.nop.mnemonic ∉ [Mnemonic.ldx, .tax, .tsx, .inx, .dex] ∧ Instr.nop.mnemonic ∉ [Mnemonic.ldy, .tay, .iny, .dey] ∧
    Instr.nop.mnemonic ∉ [Mnemonic.pha, .php, .pla, .plp, .jsr, .rts, .brk, .rti, .txs] :=
  ⟨⟨_, rfl⟩, ⟨_, rfl⟩, by decide, by decide, by decide, by decide, by decide, by decide, by decide⟩

theorem witness_OnlyTheirWritersChangeFlags :
    (∃ t, exec (.staZp 0x40) sweep = .next t) ∧
    Mnemonic.sta ∉ [Mnemonic.adc, .sbc, .cmp, .cpx, .cpy, .asl, .rol, .lsr, .ror, .clc, .sec, .plp, .rti] ∧
    Mnemonic.sta ∉ [Mnemonic.lda, .ldx, .ldy, .tax, .tay, .txa, .tya, .tsx, .pla, .adc, .sbc, .and, .ora, .eor, .inc, .inx,
      .iny, .dec, .dex, .dey, .asl, .lsr, .rol, .ror, .cmp, .cpx, .cpy, .bit, .plp, .rti] ∧
    Mnemonic.sta ∉ [Mnemonic.sei, .cli, .brk, .plp, .rti] ∧ Mnemonic.sta ∉ [Mnemonic.sed, .cld, .plp, .rti] ∧
    Mnemonic.sta ≠ .brk ∧ Mnemonic.sta ∉ [Mnemonic.adc, .sbc, .bit, .clv, .plp, .rti] :=
  ⟨⟨_, rfl⟩, by decide, by decide, by decide, by decide, by decide, by decide⟩

theorem witness_OnlyStoredCellsChange :
    (∃ t, exec (.staZp 0xFF) sweep = .next t) ∧ (0x00FE : Word) ∉ storedCells (.staZp 0xFF) sweep ∧
    (0x0100 : Word) ∉ storedCells (.staZp 0xFF) sweep ∧
    (∃ t, exec .brk sweep = .next t) ∧ (0x01F1 : Word) ∉ storedCells .brk sweep ∧
    (0x01ED : Word) ∉ storedCells .brk sweep :=
  ⟨⟨_, rfl⟩, by decide, by decide, ⟨_, rfl⟩, by decide, by decide⟩

theorem witness_FallThroughAdvancesByLength :
    transfersControl (Instr.ldaAbs 0x1234).mnemonic = false ∧
    ∃ t, exec (.ldaAbs 0x1234) { sweep with PC := 0xFFFF } = .next t :=
  ⟨by decide, _, rfl⟩

theorem witness_DecimalFlagHasNoEffect :
    (Instr.adcImm 0x09).mnemonic ∉ [Mnemonic.cld, .sed, .plp, .rti, .php, .brk] ∧
    Instr.sed.mnemonic ∈ [Mnemonic.cld, .sed, .plp, .rti] := by decide

theorem witness_StoredBreakFlagIsUnobservable : Instr.php ≠ .brk := by decide

theorem witness_InterruptDisableMasksNothing :
    (Instr.bcs 0x10).mnemonic ∉ [Mnemonic.sei, .cli, .plp, .rti, .php, .brk] ∧
    Instr.rti.mnemonic ∈ [Mnemonic.sei, .cli, .plp, .rti] := by decide

theorem witness_CostOfAStep_instruction : ∃ t, exec (.ldaAbsX 0x12FE) sweep = .next t := ⟨_, rfl⟩

theorem witness_CostOfAStep_illegal : illegal.readByte illegal.PC ∈ illegalOpcodes ∧ step illegal = .next stopped :=
  ⟨by decide, illegal_steps⟩

theorem witness_CompletedStepCostsTwoToSeven :
    Completes running { running with A := 0x42, PC := 0x0202, cycles := 2 } :=
  ⟨running_steps, by decide⟩

theorem witness_AbsoluteModesWrapAndCompareHighBytes : ∃ t, exec (.jsr 0xFFFF) sweep = .next t := ⟨_, rfl⟩

theorem witness_ByteWriteChangesOneCell : (0x0000 : Word) ≠ 0xFFFF ∧ running.mem.wf = true := by decide

theorem witness_WordAccessIsTwoBytesLittleEndian :
    (0x0001 : Word) ≠ 0xFFFF ∧ (0x0001 : Word) ≠ 0xFFFF + 1 ∧ running.mem.wf = true := by decide

theorem witness_PushAndPopStayInTheStackPage :
    (0x0200 : Word) ≠ stackAddr 0xFF ∧ (0x01FF : Word) ≠ stackAddr 0x00 ∧ running.mem.wf = true := by decide

theorem witness_StackRoundTripsAndWraps_push : running.mem.wf = true := by decide

theorem witness_StackRoundTripsAndWraps_wrap :
    ({ running with SP := 0xFF } : State).mem.wf = true ∧ ({ running with SP := 0xFF } : State).SP = 0xFF ∧
    (List.replicate 256 (0xAA : Byte)).length = 256 ∧
    ((0x00FF : Word).toNat < 0x0100 ∨ 0x01FF < (0x00FF : Word).toNat) ∧
    ((0x0200 : Word).toNat < 0x0100 ∨ 0x01FF < (0x0200 : Word).toNat) :=
  ⟨by decide, rfl, List.length_replicate, by decide, by decide⟩

theorem witness_LoadsFillTheirRegister :
    ⟨0xBD, .absX 0x1234, .ldaAbsX 0x1234, 4, true⟩ ∈ ldaForms 0x10 0x1234 ∧
    ⟨0xBE, .absY 0x1234, .ldxAbsY 0x1234, 4, true⟩ ∈ ldxForms 0x10 0x1234 ∧
    ⟨0xBC, .absX 0x1234, .ldyAbsX 0x1234, 4, true⟩ ∈ ldyForms 0x10 0x1234 := by
  simp [ldaForms, ldxForms, ldyForms]

theorem witness_StoresWriteTheirRegister :
    ⟨0x91, .indY 0x10, .staIndY 0x10, 6, false⟩ ∈ staForms 0x10 0x1234 ∧
    ⟨0x96, .zpY 0x10, .stxZpY 0x10, 4, false⟩ ∈ stxForms 0x10 0x1234 ∧
    ⟨0x94, .zpX 0x10, .styZpX 0x10, 4, false⟩ ∈ styForms 0x10 0x1234 ∧
    (0x0013 : Word) ≠ effAddr (.zpX 0x10) sweep ∧ sweep.mem.wf = true := by
  refine ⟨?_, ?_, ?_, by decide, by decide⟩ <;> simp [staForms, stxForms, styForms]

theorem witness_AdcAddsWithCarry : ⟨0x71, .indY 0x10, .adcIndY 0x10, 5, true⟩ ∈ adcForms 0x10 0x1234 := by
  simp [adcForms]

theorem witness_SbcSubtractsWithBorrow : ⟨0xE9, .imm 0x10, .sbcImm 0x10, 2, false⟩ ∈ sbcForms 0x10 0x1234 := by
  simp [sbcForms]

theorem witness_ComparesSetCarryZeroNegative :
    ⟨0xC1, .indX 0x10, .cmpIndX 0x10, 6, false⟩ ∈ cmpForms 0x10 0x1234 ∧
    ⟨0xEC, .abs 0x1234, .cpxAbs 0x1234, 4, false⟩ ∈ cpxForms 0x10 0x1234 ∧
    ⟨0xCC, .abs 0x1234, .cpyAbs 0x1234, 4, false⟩ ∈ cpyForms 0x10 0x1234 := by
  simp [cmpForms, cpxForms, cpyForms]

theorem witness_IncDecModifyOneMemoryByte :
    ⟨0xFE, .absX 0x1234, .incAbsX 0x1234, 7, false⟩ ∈ incForms 0x10 0x1234 ∧
    ⟨0xDE, .absX 0x1234, .decAbsX 0x1234, 7, false⟩ ∈ decForms 0x10 0x1234 ∧
    Operand.absX 0x1234 ≠ .acc ∧ (0x1237 : Word) ≠ effAddr (.absX 0x1234) sweep ∧ sweep.mem.wf = true := by
  refine ⟨?_, ?_, by decide, by decide, by decide⟩ <;> simp [incForms, decForms]

theorem witness_LogicCombinesWithA :
    ⟨0x35, .zpX 0x10, .andZpX 0x10, 4, false⟩ ∈ andForms 0x10 0x1234 ∧
    ⟨0x19, .absY 0x1234, .oraAbsY 0x1234, 4, true⟩ ∈ oraForms 0x10 0x1234 ∧
    ⟨0x45, .zp 0x10, .eorZp 0x10, 3, false⟩ ∈ eorForms 0x10 0x1234 := by
  simp [andForms, oraForms, eorForms]

theorem witness_BitTestsWithoutKeepingAResult :
    ⟨0x24, .zp 0x10, .bitZp 0x10, 3, false⟩ ∈ bitForms 0x10 0x1234 := by
  simp [bitForms]

theorem witness_ShiftsMoveOneBitThroughCarry :
    ⟨0x0A, .acc, .aslAcc, 2, false⟩ ∈ aslForms 0x10 0x1234 ∧
    ⟨0x46, .zp 0x10, .lsrZp 0x10, 5, false⟩ ∈ lsrForms 0x10 0x1234 ∧
    Operand.zp 0x10 ≠ .acc ∧ (0x0011 : Word) ≠ effAddr (.zp 0x10) sweep ∧ sweep.mem.wf = true := by
  refine ⟨?_, ?_, by decide, by decide, by decide⟩ <;> simp [aslForms, lsrForms]

theorem witness_RotatesMoveNineBits :
    ⟨0x2A, .acc, .rolAcc, 2, false⟩ ∈ rolForms 0x10 0x1234 ∧
    ⟨0x7E, .absX 0x1234, .rorAbsX 0x1234, 7, false⟩ ∈ rorForms 0x10 0x1234 ∧
    Operand.absX 0x1234 ≠ .acc ∧ (0x1234 : Word) ≠ effAddr (.absX 0x1234) sweep ∧ sweep.mem.wf = true := by
  refine ⟨?_, ?_, by decide, by decide, by decide⟩ <;> simp [rolForms, rorForms]

theorem witness_BranchesReadOneFlag :
    ((0xF0, .beq 0x80, fun s => s.Z) : Byte × Instr × (State → Bool)) ∈ branchForms 0x80 := by
  simp [branchForms]

theorem witness_JsrPushesItsLastByteAddress :
    sweep.mem.wf = true ∧ (0x01EE : Word) ≠ stackAddr sweep.SP ∧ (0x01EE : Word) ≠ stackAddr (sweep.SP - 1) := by decide

theorem witness_JsrAndRtsAreBalanced :
    ∃ t u v, sweep.mem.wf = true ∧ exec (.jsr 0x1234) sweep = .next t ∧ u = { t with A := 0x77, PC := 0x2000 } ∧
      u.SP = t.SP ∧ u.readByte (stackAddr sweep.SP) = t.readByte (stackAddr sweep.SP) ∧
      u.readByte (stackAddr (sweep.SP - 1)) = t.readByte (stackAddr (sweep.SP - 1)) ∧ exec .rts u = .next v :=
  ⟨_, _, _, by decide, rfl, rfl, rfl, rfl, rfl, rfl⟩

theorem witness_PushesStoreOneByte :
    sweep.mem.wf = true ∧ (0x01F1 : Word) ≠ stackAddr sweep.SP ∧ (0x01EF : Word) ≠ stackAddr sweep.SP := by decide

theorem witness_BrkTakesTheTrap :
    sweep.mem.wf = true ∧ (0x01ED : Word) ≠ stackAddr sweep.SP ∧ (0x01ED : Word) ≠ stackAddr (sweep.SP - 1) ∧
    (0x01ED : Word) ≠ stackAddr (sweep.SP - 2) := by decide

theorem witness_BrkAndRtiAreBalanced :
    ∃ t u v, sweep.mem.wf = true ∧ exec .brk sweep = .next t ∧ u = { t with A := 0x77, PC := 0x2000 } ∧ u.SP = t.SP ∧
      (∀ a, a = stackAddr sweep.SP ∨ a = stackAddr (sweep.SP - 1) ∨ a = stackAddr (sweep.SP - 2) →
        u.readByte a = t.readByte a) ∧ exec .rti u = .next v :=
  ⟨_, _, _, by decide, rfl, rfl, rfl, fun _ _ => rfl, rfl⟩

end Sys2Proof.Tests
end

section
/-! PROOF. Which outcomes `exec` and `step` can have (spec/00_scope.md rule R11, spec/30_encoding.md rule R85,
spec/60_exceptions.md rules R220, R224, R232). -/

namespace Sys2Proof.Machine

@[simp] theorem trapEntry_fault (s : State) : (trapEntry s).fault = s.fault := by simp [trapEntry]

/-- The end of an instruction answers a next state, whose latch is the one the instruction's effect left (R85 step 4). -/
theorem finish_completes {s u : State} (next : Word) (cost : Nat) (h : u.fault = s.fault) :
    ∃ t, finish next cost u = .next t ∧ t.fault = s.fault :=
  ⟨_, finish_eq next cost u, by simp [h]⟩

/-- Every shape of an instruction ends with `finish`, applied to an effect that keeps the latch. -/
theorem ExecShape.completes {s : State} {r : Result} (h : ExecShape s r) : ∃ t, r = .next t ∧ t.fault = s.fault := by
  cases h with
  | read f o base p hf => exact finish_completes _ _ (hf _ s).fault
  | store v o base => exact finish_completes _ _ (storeOperand_fault _ v s)
  | modify f g o base hg => exact finish_completes _ _ ((hg _ _ _).fault.trans (storeOperand_fault _ _ s))
  | implied f base hf => exact finish_completes _ _ (hf s).fault
  | push v base => exact finish_completes _ _ (State.push8_fault s (v s))
  | branch c b1 => cases c <;> exact finish_completes _ _ rfl
  | jump w base => exact finish_completes w base rfl
  | call w => exact finish_completes _ _ (State.push16_fault s _)
  | ret => exact finish_completes _ _ (State.drop16_fault s)
  | trap => exact finish_completes _ _ (trapEntry_fault s)
  | trapReturn =>
    have hkept : (unpackP s.drop8 s.top8).drop16.fault = s.fault := by simp
    exact finish_completes _ _ hkept

/-- Every instruction completes from every state and keeps the latch (R11, R220, R232). -/
theorem exec_completes (i : Instr) (s : State) : ∃ t, exec i s = .next t ∧ t.fault = s.fault :=
  (exec_shape i s).completes

/-- Settles O9: the answer of every instruction has one of the shapes, and every shape completes. -/
theorem everyInstructionCompletes : Obligations.EveryInstructionCompletes :=
  exec_completes

/-- With the latch clear a step answers a next state: the instruction fetched completes, and an illegal opcode byte only
sets the latch (R85 steps 1 to 4, R224). -/
theorem step_next_of_running {s : State} (h : Running s) : ∃ t, step s = .next t := by
  obtain ⟨f, hf, -⟩ | ⟨i, -, -, hstep⟩ | ⟨-, -, hstep⟩ := step_cases s
  · cases h.symm.trans hf
  · obtain ⟨t, ht, -⟩ := exec_completes i s
    exact ⟨t, hstep.trans ht⟩
  · exact ⟨_, hstep⟩

/-- Settles O8, by the two values of the latch: set, the step answers the latched fault; clear, a next state. -/
theorem stepStopsExactlyWhenLatched : Obligations.StepStopsExactlyWhenLatched := by
  intro s
  cases hs : s.fault with
  | some g => simp [step_latched hs]
  | none =>
    obtain ⟨t, ht⟩ := step_next_of_running hs
    simp [ht]

end Sys2Proof.Machine
end

section
/-! PROOF. The canonical form of the memory is kept by every step and by every host event (spec/10_state.md rules R40 and
R45, spec/20_memory.md rule R52, spec/70_reset_and_hazards.md rules R256 and R262). -/

namespace Sys2Proof.Machine

/-- The end of an instruction writes PC and the counter, so its memory is the one the instruction's effect left. -/
theorem finish_canonical {next : Word} {cost : Nat} {u t : State} (h : finish next cost u = .next t) (hu : Canonical u) :
    Canonical t := by
  obtain rfl := finish_next_iff.1 h
  exact hu

/-- Every shape of an instruction reaches memory through `storeOperand` or a push, or not at all. -/
theorem ExecShape.canonical {s t : State} {r : Result} (h : ExecShape s r) (hs : Canonical s) (hr : r = .next t) :
    Canonical t := by
  cases h with
  | read f o base p hf => exact finish_canonical hr (by rw [Canonical, (hf _ s).mem]; exact hs)
  | store v o base => exact finish_canonical hr (storeOperand_canonical hs _ v)
  | modify f g o base hg =>
    exact finish_canonical hr (by rw [Canonical, (hg _ _ _).mem]; exact storeOperand_canonical hs _ _)
  | implied f base hf => exact finish_canonical hr (by rw [Canonical, (hf s).mem]; exact hs)
  | push v base => exact finish_canonical hr (State.push8_canonical hs (v s))
  | branch c b1 => cases c <;> exact finish_canonical hr hs
  | jump w base => exact finish_canonical hr hs
  | call w => exact finish_canonical hr (State.push16_canonical hs _)
  | ret => exact finish_canonical hr hs
  | trap => exact finish_canonical hr (trapEntry_canonical hs)
  | trapReturn => exact finish_canonical hr hs

theorem exec_canonical {i : Instr} {s t : State} (hs : Canonical s) (h : exec i s = .next t) : Canonical t :=
  (exec_shape i s).canonical hs h

theorem step_canonical {s t : State} (hs : Canonical s) (h : step s = .next t) : Canonical t := by
  obtain ⟨f, -, hstep⟩ | ⟨i, -, -, hstep⟩ | ⟨-, -, hstep⟩ := step_cases s
  · cases hstep.symm.trans h
  · exact exec_canonical hs (hstep.symm.trans h)
  · cases hstep.symm.trans h
    exact hs

/-- Settles O10, by the three ways of a step: only an instruction reaches memory, and each of its shapes keeps the form. -/
theorem stepKeepsMemoryCanonical : Obligations.StepKeepsMemoryCanonical :=
  fun _ _ => step_canonical

theorem applyEvent_canonical {e : HostEvent} {s t : State} (hs : Canonical s) (h : applyEvent e s = .next t) :
    Canonical t := by
  cases e with
  | powerUp => cases h; exact Memory.wf_zeroed
  | step => exact step_canonical hs h
  | hostWrite a v => cases h; exact State.writeByte_canonical hs a v
  | reset | hostRead a | readCycles | resetCycles | readFault => cases h; exact hs

/-- A run of events goes through the state after its first event. -/
theorem runEvents_cons_next {e : HostEvent} {es : List HostEvent} {s t : State} (h : runEvents (e :: es) s = .next t) :
    ∃ u, applyEvent e s = .next u ∧ runEvents es u = .next t := by
  rw [runEvents] at h
  split at h
  · exact ⟨_, ‹_›, h⟩
  · cases h
  · cases h

/-- Settles O11, by induction on the list of events: every event, a step among them, keeps the form. -/
theorem hostRunsKeepMemoryCanonical : Obligations.HostRunsKeepMemoryCanonical := by
  intro es
  induction es with
  | nil =>
    intro s t hs h
    cases h
    exact hs
  | cons e es ih =>
    intro s t hs h
    obtain ⟨u, he, hes⟩ := runEvents_cons_next h
    exact ih u t (applyEvent_canonical hs he) hes

/-- Settles O12: the memory after `PowerUp` lists no cell. -/
theorem resetStateIsCanonical : Obligations.ResetStateIsCanonical :=
  Memory.wf_zeroed

end Sys2Proof.Machine
end

section
/-! PROOF. The status byte and its two conversions (spec/10_state.md rules R36 to R38). -/

namespace Sys2Proof.Machine

/-- The byte with the layout N V 1 1 D I Z C (R36, R37). -/
def statusByte (n v d i z c : Bool) : Byte :=
  BitVec.ofNat 8 (bitNat n * 0x80 + bitNat v * 0x40 + 0x20 + 0x10 + bitNat d * 0x08 + bitNat i * 0x04 + bitNat z * 0x02 +
    bitNat c * 0x01)

theorem packP_eq_statusByte (s : State) : packP s = statusByte s.N s.V s.D s.I s.Z s.C := rfl

theorem byteBit_statusByte : ∀ n v d i z c : Bool,
    byteBit (statusByte n v d i z c) 7 = n ∧ byteBit (statusByte n v d i z c) 6 = v ∧
    byteBit (statusByte n v d i z c) 5 = true ∧ byteBit (statusByte n v d i z c) 4 = true ∧
    byteBit (statusByte n v d i z c) 3 = d ∧ byteBit (statusByte n v d i z c) 2 = i ∧
    byteBit (statusByte n v d i z c) 1 = z ∧ byteBit (statusByte n v d i z c) 0 = c := by decide

/-- Six bits of a byte determine it but for bits 5 and 4, which the layout sets (R38). -/
theorem statusByte_byteBit : ∀ b : Byte,
    statusByte (byteBit b 7) (byteBit b 6) (byteBit b 3) (byteBit b 2) (byteBit b 1) (byteBit b 0) = b ||| 0x30 := by decide

theorem packP_isStatusByte (s : State) : Spec.IsStatusByte (packP s) s := byteBit_statusByte s.N s.V s.D s.I s.Z s.C

theorem packP_unpackP (s : State) (b : Byte) : packP (unpackP s b) = b ||| 0x30 := statusByte_byteBit b

theorem unpackP_packP (s : State) : unpackP s (packP s) = s := by
  obtain ⟨hN, hV, -, -, hD, hI, hZ, hC⟩ := packP_isStatusByte s
  simp only [unpackP, byteBit, hN, hV, hD, hI, hZ, hC]

/-- Settles O36: the bits of `packP` are read off its layout, and the two conversions undo each other bit by bit. -/
theorem statusByteConversions : Obligations.StatusByteConversions :=
  fun s b => ⟨packP_isStatusByte s, rfl, packP_unpackP s b, unpackP_packP s⟩

end Sys2Proof.Machine
end

section
/-! PROOF. Which registers and flags each instruction can change (spec/10_state.md rules R21 to R34), and where PC goes
after an instruction that transfers no control (R26, R85). -/

namespace Sys2Proof.Machine

/-- The registers and flags that rules R21 to R34 list writers for. -/
inductive Field where
  | A | X | Y | SP | C | Z | N | I | D | B | V
  deriving DecidableEq

/-- The writers each rule lists (R21 to R25, R28 to R34); A has the accumulator forms of the shifts besides (R102). -/
def Field.writers : Field → List Mnemonic
  | .A => [.lda, .txa, .tya, .pla, .adc, .sbc, .and, .ora, .eor]
  | .X => [.ldx, .tax, .tsx, .inx, .dex]
  | .Y => [.ldy, .tay, .iny, .dey]
  | .SP => [.pha, .php, .pla, .plp, .jsr, .rts, .brk, .rti, .txs]
  | .C => [.adc, .sbc, .cmp, .cpx, .cpy, .asl, .rol, .lsr, .ror, .clc, .sec, .plp, .rti]
  | .Z | .N => [.lda, .ldx, .ldy, .tax, .tay, .txa, .tya, .tsx, .pla, .adc, .sbc, .and, .ora, .eor, .inc, .inx,
      .iny, .dec, .dex, .dey, .asl, .lsr, .rol, .ror, .cmp, .cpx, .cpy, .bit, .plp, .rti]
  | .I => [.sei, .cli, .brk, .plp, .rti]
  | .D => [.sed, .cld, .plp, .rti]
  | .B => [.brk]
  | .V => [.adc, .sbc, .bit, .clv, .plp, .rti]

/-- Whether an instruction may change a field: it is listed as a writer, or it is an accumulator form and the field is A. -/
def Field.writtenBy (i : Instr) (f : Field) : Bool :=
  f.writers.contains i.mnemonic || (f == .A && i.format == .accumulator)

theorem Field.writtenBy_eq_false {i : Instr} {f : Field} (hm : i.mnemonic ∉ f.writers)
    (hA : f = .A → i.format ≠ .accumulator) : f.writtenBy i = false := by
  simpa [Field.writtenBy, hm] using hA

/-- `t` differs from `s` at most in the fields of `w`, and in PC, `cycles` and memory; the latch is the same. -/
structure Frame (w : Field → Bool) (s t : State) : Prop where
  A : w .A = false → t.A = s.A
  X : w .X = false → t.X = s.X
  Y : w .Y = false → t.Y = s.Y
  SP : w .SP = false → t.SP = s.SP
  C : w .C = false → t.C = s.C
  Z : w .Z = false → t.Z = s.Z
  N : w .N = false → t.N = s.N
  I : w .I = false → t.I = s.I
  D : w .D = false → t.D = s.D
  B : w .B = false → t.B = s.B
  V : w .V = false → t.V = s.V
  fault : t.fault = s.fault

section
variable {w : Field → Bool} {s t u : State}

/-- A frame of a list of fields is a frame of every `w` that has them. -/
theorem Frame.within {l : List Field} (h : Frame l.contains s t) (hl : l.all w = true) : Frame w s t := by
  have hnot : ∀ f, w f = false → l.contains f = false := by
    intro f hf
    rw [← Bool.not_eq_true, List.contains_iff_mem]
    intro hmem
    exact absurd (List.all_eq_true.1 hl f hmem) (by simp [hf])
  exact ⟨h.A ∘ hnot _, h.X ∘ hnot _, h.Y ∘ hnot _, h.SP ∘ hnot _, h.C ∘ hnot _, h.Z ∘ hnot _, h.N ∘ hnot _,
    h.I ∘ hnot _, h.D ∘ hnot _, h.B ∘ hnot _, h.V ∘ hnot _, h.fault⟩

theorem Frame.trans (h : Frame w s t) (h' : Frame w t u) : Frame w s u :=
  ⟨fun hw => (h'.A hw).trans (h.A hw), fun hw => (h'.X hw).trans (h.X hw), fun hw => (h'.Y hw).trans (h.Y hw),
    fun hw => (h'.SP hw).trans (h.SP hw), fun hw => (h'.C hw).trans (h.C hw), fun hw => (h'.Z hw).trans (h.Z hw),
    fun hw => (h'.N hw).trans (h.N hw), fun hw => (h'.I hw).trans (h.I hw), fun hw => (h'.D hw).trans (h.D hw),
    fun hw => (h'.B hw).trans (h.B hw), fun hw => (h'.V hw).trans (h.V hw), h'.fault.trans h.fault⟩

theorem Frame.refl (w : Field → Bool) (s : State) : Frame w s s := by constructor <;> simp

/-- A store to memory changes no register and no flag (R52). -/
theorem writeByte_frame (w : Field → Bool) (a : Word) (v : Byte) (s : State) : Frame w s (s.writeByte a v) := by
  constructor <;> simp

/-- The end of an instruction writes PC and the counter only (R85 step 4). -/
theorem finish_frame {next : Word} {cost : Nat} (h : finish next cost u = .next t) (hu : Frame w s u) : Frame w s t := by
  obtain rfl := finish_next_iff.1 h
  exact ⟨hu.A, hu.X, hu.Y, hu.SP, hu.C, hu.Z, hu.N, hu.I, hu.D, hu.B, hu.V, hu.fault⟩

/-- A branch changes PC and the counter only, taken or not (R175). -/
theorem branchOn_frame {c : Bool} {b1 : Byte} {base : Nat} (h : branchOn c b1 base s = .next t) : Frame w s t := by
  cases c <;> exact finish_frame h (.refl w s)

end

section
variable (v : Byte) (c : Bool) (s : State)

theorem loadA_frame : Frame [.A, .Z, .N].contains s (loadA v s) := by constructor <;> simp [loadA]
theorem loadX_frame : Frame [.X, .Z, .N].contains s (loadX v s) := by constructor <;> simp [loadX]
theorem loadY_frame : Frame [.Y, .Z, .N].contains s (loadY v s) := by constructor <;> simp [loadY]
theorem addToA_frame : Frame [.A, .C, .V, .Z, .N].contains s (addToA v s) := by constructor <;> simp [addToA]
theorem compareReg_frame (reg : Byte) : Frame [.C, .Z, .N].contains s (compareReg reg v s) := by constructor <;> simp
theorem bitTest_frame : Frame [.Z, .N, .V].contains s (bitTest v s) := by constructor <;> simp
theorem setZN_frame : Frame [.Z, .N].contains s (s.setZN v) := by constructor <;> simp
theorem moveX_frame : Frame [.X, .Z, .N].contains s (moveX v s) := by constructor <;> simp [moveX]
theorem moveY_frame : Frame [.Y, .Z, .N].contains s (moveY v s) := by constructor <;> simp [moveY]
theorem leftFlags_frame (old : Byte) : Frame [.C, .Z, .N].contains s (leftFlags old v s) := by
  constructor <;> simp [leftFlags]
theorem rightFlags_frame (old : Byte) : Frame [.C, .Z, .N].contains s (rightFlags old v s) := by
  constructor <;> simp [rightFlags]
theorem setA_frame : Frame [.A].contains s (s.setA v) := by constructor <;> simp
theorem setSP_frame : Frame [.SP].contains s (s.setSP v) := by constructor <;> simp
theorem setC_frame : Frame [.C].contains s (s.setC c) := by constructor <;> simp
theorem setI_frame : Frame [.I].contains s (s.setI c) := by constructor <;> simp
theorem setD_frame : Frame [.D].contains s (s.setD c) := by constructor <;> simp
theorem setV_frame : Frame [.V].contains s (s.setV c) := by constructor <;> simp
theorem push8_frame : Frame [.SP].contains s (s.push8 v) := by constructor <;> simp
theorem push16_frame (x : Word) : Frame [.SP].contains s (s.push16 x) := by constructor <;> simp
theorem drop8_frame : Frame [.SP].contains s s.drop8 := by constructor <;> simp
theorem drop16_frame : Frame [.SP].contains s s.drop16 := by constructor <;> simp
theorem unpackP_frame : Frame [.N, .V, .D, .I, .Z, .C].contains s (unpackP s v) := by constructor <;> simp
theorem trapEntry_frame : Frame [.SP, .I, .B].contains s (trapEntry s) := by constructor <;> simp [trapEntry]

end

/-- Every instruction changes at most the registers and flags it is listed as a writer of, and never the latch. -/
theorem exec_frame {i : Instr} {s t : State} (h : exec i s = .next t) : Frame (Field.writtenBy i) s t := by
  cases i with
  | ldaImm _ | ldaZp _ | ldaZpX _ | ldaAbs _ | ldaAbsX _ | ldaAbsY _ | ldaIndX _ | ldaIndY _
  | andImm _ | andZp _ | andZpX _ | andAbs _ | andAbsX _ | andAbsY _ | andIndX _ | andIndY _
  | oraImm _ | oraZp _ | oraZpX _ | oraAbs _ | oraAbsX _ | oraAbsY _ | oraIndX _ | oraIndY _
  | eorImm _ | eorZp _ | eorZpX _ | eorAbs _ | eorAbsX _ | eorAbsY _ | eorIndX _ | eorIndY _
  | txa | tya => exact finish_frame h ((loadA_frame _ _).within rfl)
  | ldxImm _ | ldxZp _ | ldxZpY _ | ldxAbs _ | ldxAbsY _ | tax | tsx => exact finish_frame h ((loadX_frame _ _).within rfl)
  | ldyImm _ | ldyZp _ | ldyZpX _ | ldyAbs _ | ldyAbsX _ | tay => exact finish_frame h ((loadY_frame _ _).within rfl)
  | staZp _ | staZpX _ | staAbs _ | staAbsX _ | staAbsY _ | staIndX _ | staIndY _ | stxZp _ | stxZpY _ | stxAbs _
  | styZp _ | styZpX _ | styAbs _ => exact finish_frame h (writeByte_frame _ _ _ s)
  | adcImm _ | adcZp _ | adcZpX _ | adcAbs _ | adcAbsX _ | adcAbsY _ | adcIndX _ | adcIndY _
  | sbcImm _ | sbcZp _ | sbcZpX _ | sbcAbs _ | sbcAbsX _ | sbcAbsY _ | sbcIndX _ | sbcIndY _ =>
    exact finish_frame h ((addToA_frame _ _).within rfl)
  | cmpImm _ | cmpZp _ | cmpZpX _ | cmpAbs _ | cmpAbsX _ | cmpAbsY _ | cmpIndX _ | cmpIndY _
  | cpxImm _ | cpxZp _ | cpxAbs _ | cpyImm _ | cpyZp _ | cpyAbs _ =>
    exact finish_frame h ((compareReg_frame _ _ _).within rfl)
  | bitZp _ | bitAbs _ => exact finish_frame h ((bitTest_frame _ _).within rfl)
  | incZp _ | incZpX _ | incAbs _ | incAbsX _ | decZp _ | decZpX _ | decAbs _ | decAbsX _ =>
    exact finish_frame h ((writeByte_frame _ _ _ s).trans ((setZN_frame _ _).within rfl))
  | inx | dex => exact finish_frame h ((moveX_frame _ _).within rfl)
  | iny | dey => exact finish_frame h ((moveY_frame _ _).within rfl)
  | aslZp _ | aslZpX _ | aslAbs _ | aslAbsX _ | rolZp _ | rolZpX _ | rolAbs _ | rolAbsX _ =>
    exact finish_frame h ((writeByte_frame _ _ _ s).trans ((leftFlags_frame _ _ _).within rfl))
  | lsrZp _ | lsrZpX _ | lsrAbs _ | lsrAbsX _ | rorZp _ | rorZpX _ | rorAbs _ | rorAbsX _ =>
    exact finish_frame h ((writeByte_frame _ _ _ s).trans ((rightFlags_frame _ _ _).within rfl))
  | aslAcc | rolAcc => exact finish_frame h (((setA_frame _ s).within rfl).trans ((leftFlags_frame _ _ _).within rfl))
  | lsrAcc | rorAcc => exact finish_frame h (((setA_frame _ s).within rfl).trans ((rightFlags_frame _ _ _).within rfl))
  | bcc _ | bcs _ | beq _ | bne _ | bmi _ | bpl _ | bvc _ | bvs _ => exact branchOn_frame h
  | jmpAbs _ | jmpInd _ | nop => exact finish_frame h (.refl _ s)
  | jsr _ => exact finish_frame h ((push16_frame s _).within rfl)
  | rts => exact finish_frame h ((drop16_frame s).within rfl)
  | pha | php => exact finish_frame h ((push8_frame _ s).within rfl)
  | pla => exact finish_frame h (((drop8_frame s).within rfl).trans ((loadA_frame _ _).within rfl))
  | plp => exact finish_frame h (((drop8_frame s).within rfl).trans ((unpackP_frame _ _).within rfl))
  | txs => exact finish_frame h ((setSP_frame _ s).within rfl)
  | clc | sec => exact finish_frame h ((setC_frame _ s).within rfl)
  | cli | sei => exact finish_frame h ((setI_frame _ s).within rfl)
  | cld | sed => exact finish_frame h ((setD_frame _ s).within rfl)
  | clv => exact finish_frame h ((setV_frame _ s).within rfl)
  | brk => exact finish_frame h ((trapEntry_frame s).within rfl)
  | rti =>
    have hpulled : Frame (Field.writtenBy .rti) s (unpackP s.drop8 s.top8) :=
      ((drop8_frame s).within rfl).trans ((unpackP_frame _ _).within rfl)
    exact finish_frame h (hpulled.trans ((drop16_frame _).within rfl))

/-- Settles O17: an instruction that the register table does not list keeps the register. -/
theorem onlyTheirWritersChangeRegisters : Obligations.OnlyTheirWritersChangeRegisters := by
  intro i s t h
  have frame := exec_frame h
  exact ⟨fun hm hacc => frame.A (Field.writtenBy_eq_false hm fun _ => hacc),
    fun hm => frame.X (Field.writtenBy_eq_false hm nofun), fun hm => frame.Y (Field.writtenBy_eq_false hm nofun),
    fun hm => frame.SP (Field.writtenBy_eq_false hm nofun), frame.fault⟩

/-- Settles O18: an instruction that the flag's rule does not list keeps the flag. -/
theorem onlyTheirWritersChangeFlags : Obligations.OnlyTheirWritersChangeFlags := by
  intro i s t h
  have frame := exec_frame h
  exact ⟨fun hm => frame.C (Field.writtenBy_eq_false hm nofun),
    fun hm => ⟨frame.Z (Field.writtenBy_eq_false hm nofun), frame.N (Field.writtenBy_eq_false hm nofun)⟩,
    fun hm => frame.I (Field.writtenBy_eq_false hm nofun), fun hm => frame.D (Field.writtenBy_eq_false hm nofun),
    fun hm => frame.B (Field.writtenBy_eq_false (mt List.mem_singleton.1 hm) nofun),
    fun hm => frame.V (Field.writtenBy_eq_false hm nofun)⟩

/-- An instruction that transfers no control ends with PC moved on by its length (R26, R85). -/
theorem exec_fallsThrough {i : Instr} (hi : Spec.transfersControl i.mnemonic = false) (s : State) :
    ∃ (cost : Nat) (u : State), exec i s = finish (s.PC + BitVec.ofNat 16 i.length) cost u := by
  cases i with
  | bcc _ | bcs _ | beq _ | bne _ | bmi _ | bpl _ | bvc _ | bvs _ | jmpAbs _ | jmpInd _ | jsr _ | rts | brk | rti => cases hi
  | _ => exact ⟨_, _, rfl⟩

/-- Settles O20: what ends at `PC + len` leaves PC there. -/
theorem fallThroughAdvancesByLength : Obligations.FallThroughAdvancesByLength := by
  intro i s t hi h
  obtain ⟨cost, u, hend⟩ := exec_fallsThrough hi s
  obtain rfl := finish_next_iff.1 (hend.symm.trans h)
  rfl

end Sys2Proof.Machine
end

section
/-! PROOF. What no result depends on: D and I but for the pushed status byte, the stored B and the cycle counter
(spec/10_state.md rules R30 to R32, R39, R44). -/

namespace Sys2Proof.Machine

open Spec (mapNext)

/-- I, D and B replaced and the counter raised: the changes whose effect rules R30 to R32 and R39 limit. -/
def perturb (fI fD fB : Bool → Bool) (n : Nat) (s : State) : State :=
  { s with I := fI s.I, D := fD s.D, B := fB s.B, cycles := s.cycles + n }

section
variable {fI fD fB : Bool → Bool} {n : Nat} {s : State}

theorem loadOperand_perturb (o : Operand) (s : State) :
    loadOperand (placeOf o (perturb fI fD fB n s)) (perturb fI fD fB n s) = loadOperand (placeOf o s) s := by
  cases o <;> rfl

theorem crosses_perturb (o : Operand) (s : State) : crosses o (perturb fI fD fB n s) = crosses o s := by
  cases o <;> rfl

theorem storeOperand_perturb (o : Operand) (v : Byte) (s : State) :
    storeOperand (placeOf o (perturb fI fD fB n s)) v (perturb fI fD fB n s) =
      perturb fI fD fB n (storeOperand (placeOf o s) v s) := by
  cases o <;> rfl

/-- The cost of an instruction is added to the counter whatever it holds (R39). -/
theorem finish_perturb {next : Word} {cost : Nat} {u v : State} (h : v = perturb fI fD fB n u) :
    finish next cost v = mapNext (perturb fI fD fB n) (finish next cost u) := by
  subst h
  have hcycles : u.cycles + n + cost = u.cycles + cost + n := Nat.add_right_comm ..
  simp only [finish, mapNext, State.addCycles, State.setCycles, State.setPC, perturb, hcycles]

theorem readForm_perturb {f : Byte → State → State} {o : Operand} {base : Nat} {p : Penalty}
    (hf : ∀ v t, f v (perturb fI fD fB n t) = perturb fI fD fB n (f v t)) :
    readForm f o base p (perturb fI fD fB n s) = mapNext (perturb fI fD fB n) (readForm f o base p s) := by
  rw [readForm, loadOperand_perturb, crosses_perturb]
  exact finish_perturb (hf _ s)

theorem storeForm_perturb {v : Byte} {o : Operand} {base : Nat} :
    storeForm v o base (perturb fI fD fB n s) = mapNext (perturb fI fD fB n) (storeForm v o base s) :=
  finish_perturb (storeOperand_perturb o v s)

theorem modifyForm_perturb {f : Byte → Byte} {g : Byte → Byte → State → State} {o : Operand} {base : Nat}
    (hg : ∀ v w t, g v w (perturb fI fD fB n t) = perturb fI fD fB n (g v w t)) :
    modifyForm f g o base (perturb fI fD fB n s) = mapNext (perturb fI fD fB n) (modifyForm f g o base s) := by
  simp only [modifyForm, loadOperand_perturb, storeOperand_perturb]
  exact finish_perturb (hg _ _ _)

theorem branchOn_perturb {c : Bool} {b1 : Byte} {base : Nat} :
    branchOn c b1 base (perturb fI fD fB n s) = mapNext (perturb fI fD fB n) (branchOn c b1 base s) := by
  cases c <;> exact finish_perturb rfl

theorem incForm_perturb {o : Operand} {base : Nat} :
    incForm o base (perturb fI fD fB n s) = mapNext (perturb fI fD fB n) (incForm o base s) :=
  modifyForm_perturb fun _ _ _ => rfl

theorem decForm_perturb {o : Operand} {base : Nat} :
    decForm o base (perturb fI fD fB n s) = mapNext (perturb fI fD fB n) (decForm o base s) :=
  modifyForm_perturb fun _ _ _ => rfl

theorem aslForm_perturb {o : Operand} {base : Nat} :
    aslForm o base (perturb fI fD fB n s) = mapNext (perturb fI fD fB n) (aslForm o base s) :=
  modifyForm_perturb fun _ _ _ => rfl

theorem lsrForm_perturb {o : Operand} {base : Nat} :
    lsrForm o base (perturb fI fD fB n s) = mapNext (perturb fI fD fB n) (lsrForm o base s) :=
  modifyForm_perturb fun _ _ _ => rfl

theorem rolForm_perturb {o : Operand} {base : Nat} :
    rolForm o base (perturb fI fD fB n s) = mapNext (perturb fI fD fB n) (rolForm o base s) :=
  modifyForm_perturb fun _ _ _ => rfl

theorem rorForm_perturb {o : Operand} {base : Nat} :
    rorForm o base (perturb fI fD fB n s) = mapNext (perturb fI fD fB n) (rorForm o base s) :=
  modifyForm_perturb fun _ _ _ => rfl

theorem moveX_perturb (d : Byte) (s : State) : moveX d (perturb fI fD fB n s) = perturb fI fD fB n (moveX d s) := rfl

theorem moveY_perturb (d : Byte) (s : State) : moveY d (perturb fI fD fB n s) = perturb fI fD fB n (moveY d s) := rfl

theorem push8_perturb (v : Byte) (s : State) : (perturb fI fD fB n s).push8 v = perturb fI fD fB n (s.push8 v) := rfl

theorem push16_perturb (w : Word) (s : State) :
    (perturb fI fD fB n s).push16 w = perturb fI fD fB n (s.push16 w) := by
  rw [State.push16, push8_perturb, push8_perturb, State.push16]

theorem drop16_perturb (s : State) : (perturb fI fD fB n s).drop16 = perturb fI fD fB n s.drop16 := rfl

/-- The stored B and the counter are not in the status byte (R32, R37). -/
theorem packP_perturb (s : State) : packP (perturb id id fB n s) = packP s := rfl

/-- Trap entry pushes D and I and writes I and B, so it carries through what changes none of them (R227). -/
theorem takeTrap_perturb {cost : Nat} :
    takeTrap cost (perturb id id id n s) = mapNext (perturb id id id n) (takeTrap cost s) := by
  have hentry : trapEntry (perturb id id id n s) = perturb id id id n (trapEntry s) := by
    rw [trapEntry, packP_perturb, push16_perturb, push8_perturb]
    rfl
  rw [takeTrap, hentry]
  exact finish_perturb (u := trapEntry s) rfl

/-- The return from the trap writes D and I and leaves B (R229). -/
theorem returnFromTrap_perturb {cost : Nat} :
    returnFromTrap cost (perturb id id fB n s) = mapNext (perturb id id fB n) (returnFromTrap cost s) := by
  have hpulled : unpackP (perturb id id fB n s).drop8 (perturb id id fB n s).top8 =
      perturb id id fB n (unpackP s.drop8 s.top8) := rfl
  rw [returnFromTrap, hpulled]
  exact finish_perturb (drop16_perturb _)

/-- Every instruction carries through a change of I, D, B and the counter, as long as I is changed only before an instruction
that neither writes nor pushes it, and so D, and B only before one that does not write it (R30 to R32, R39). -/
theorem exec_perturb (i : Instr) (s : State) (hI : i.mnemonic ∈ [.sei, .cli, .plp, .rti, .php, .brk] → fI = id)
    (hD : i.mnemonic ∈ [.cld, .sed, .plp, .rti, .php, .brk] → fD = id) (hB : i = .brk → fB = id) :
    exec i (perturb fI fD fB n s) = mapNext (perturb fI fD fB n) (exec i s) := by
  cases i with
  | staZp _ | staZpX _ | staAbs _ | staAbsX _ | staAbsY _ | staIndX _ | staIndY _ | stxZp _ | stxZpY _ | stxAbs _
  | styZp _ | styZpX _ | styAbs _ => exact storeForm_perturb
  | incZp _ | incZpX _ | incAbs _ | incAbsX _ => exact incForm_perturb
  | decZp _ | decZpX _ | decAbs _ | decAbsX _ => exact decForm_perturb
  | aslAcc | aslZp _ | aslZpX _ | aslAbs _ | aslAbsX _ => exact aslForm_perturb
  | lsrAcc | lsrZp _ | lsrZpX _ | lsrAbs _ | lsrAbsX _ => exact lsrForm_perturb
  | rolAcc | rolZp _ | rolZpX _ | rolAbs _ | rolAbsX _ => exact rolForm_perturb
  | rorAcc | rorZp _ | rorZpX _ | rorAbs _ | rorAbsX _ => exact rorForm_perturb
  | bcc _ | bcs _ | beq _ | bne _ | bmi _ | bpl _ | bvc _ | bvs _ => exact branchOn_perturb
  | tax | tay | txa | tya | pha | pla | tsx | txs | clc | sec | clv | nop | jmpAbs _ | jmpInd _ =>
    exact finish_perturb rfl
  | inx | dex => exact finish_perturb (moveX_perturb _ s)
  | iny | dey => exact finish_perturb (moveY_perturb _ s)
  | jsr _ => exact finish_perturb (push16_perturb _ s)
  | rts => exact finish_perturb (drop16_perturb s)
  | cli | sei =>
    obtain rfl := hI (by decide)
    exact finish_perturb rfl
  | cld | sed =>
    obtain rfl := hD (by decide)
    exact finish_perturb rfl
  | php | plp =>
    obtain rfl := hI (by decide)
    obtain rfl := hD (by decide)
    exact finish_perturb rfl
  | rti =>
    obtain rfl := hI (by decide)
    obtain rfl := hD (by decide)
    exact returnFromTrap_perturb
  | brk =>
    obtain rfl := hI (by decide)
    obtain rfl := hD (by decide)
    obtain rfl := hB rfl
    exact takeTrap_perturb
  | _ => exact readForm_perturb fun _ _ => rfl

end

/-- Settles O21, by changing D alone: the instructions that write D lose the change, the others but PHP and BRK carry it
through. -/
theorem decimalFlagHasNoEffect : Obligations.DecimalFlagHasNoEffect := by
  intro i s d
  refine ⟨fun hi => exec_perturb (fI := id) (fD := fun _ => d) (fB := id) (n := 0) i s (fun _ => rfl)
    (fun h => absurd h hi) (fun _ => rfl), fun hi => ?_⟩
  cases i with
  | cld | sed | plp | rti => rfl
  | _ => simp [Instr.mnemonic] at hi

/-- Settles O22, by changing B alone: only BRK does not carry the change through, because it sets B. -/
theorem storedBreakFlagIsUnobservable : Obligations.StoredBreakFlagIsUnobservable := by
  refine ⟨fun i s b hi => ?_, fun s b => ⟨rfl, _, rfl, rfl⟩, fun s => ⟨rfl, rfl⟩⟩
  exact exec_perturb (fI := id) (fD := id) (fB := fun _ => b) (n := 0) i s (fun _ => rfl) (fun _ => rfl)
    (fun h => absurd h hi)

/-- Settles O23, by changing I alone: the instructions that write I lose the change, the others but PHP and BRK carry it
through. -/
theorem interruptDisableMasksNothing : Obligations.InterruptDisableMasksNothing := by
  intro i s b
  refine ⟨fun hi => exec_perturb (fI := fun _ => b) (fD := id) (fB := id) (n := 0) i s (fun h => absurd h hi)
    (fun _ => rfl) (fun _ => rfl), fun hi => ?_⟩
  cases i with
  | cli | sei | plp | rti => rfl
  | _ => simp [Instr.mnemonic] at hi

/-- Settles O24, by raising the counter alone: every instruction carries the raise through. -/
theorem cyclesInfluenceNothing : Obligations.CyclesInfluenceNothing :=
  fun i s n => exec_perturb (fI := id) (fD := id) (fB := id) (n := n) i s (fun _ => rfl) (fun _ => rfl) (fun _ => rfl)

end Sys2Proof.Machine
end


section
/-! PROOF. The encodings, by the three sorts of entry of the opcode map, and their decoding (spec/30_encoding.md rules R80, R83,
R86, R89). -/

namespace Sys2Proof

/-- Every encoding is an opcode byte and the operand bytes its map entry asks for, low byte first (R80, R83, R89): the
converse of `decode_ok_cases`. -/
theorem encode_cases (i : Instr) :
    (∃ op, encode i = [op] ∧ opcodeMap op = some (.noOperand i)) ∨
    (∃ op mk b1, encode i = [op, b1] ∧ opcodeMap op = some (.oneByte mk) ∧ i = mk b1) ∨
    (∃ op mk w, encode i = [op, lo8 w, hi8 w] ∧ opcodeMap op = some (.twoBytes mk) ∧ i = mk w) := by
  cases i with
  | tax | tay | txa | tya | inx | iny | dex | dey | aslAcc | lsrAcc | rolAcc | rorAcc | rts | pha | php | pla | plp | tsx
  | txs | clc | sec | cli | sei | cld | sed | clv | nop | brk | rti => exact .inl ⟨_, rfl, rfl⟩
  | ldaAbs _ | ldaAbsX _ | ldaAbsY _ | ldxAbs _ | ldxAbsY _ | ldyAbs _ | ldyAbsX _ | staAbs _ | staAbsX _ | staAbsY _
  | stxAbs _ | styAbs _ | adcAbs _ | adcAbsX _ | adcAbsY _ | sbcAbs _ | sbcAbsX _ | sbcAbsY _ | cmpAbs _ | cmpAbsX _
  | cmpAbsY _ | cpxAbs _ | cpyAbs _ | incAbs _ | incAbsX _ | decAbs _ | decAbsX _ | andAbs _ | andAbsX _ | andAbsY _
  | oraAbs _ | oraAbsX _ | oraAbsY _ | eorAbs _ | eorAbsX _ | eorAbsY _ | bitAbs _ | aslAbs _ | aslAbsX _ | lsrAbs _
  | lsrAbsX _ | rolAbs _ | rolAbsX _ | rorAbs _ | rorAbsX _ | jmpAbs _ | jmpInd _ | jsr _ =>
    exact .inr (.inr ⟨_, _, _, rfl, rfl, rfl⟩)
  | _ => exact .inr (.inl ⟨_, _, _, rfl, rfl, rfl⟩)

/-- Decoding undoes encoding, by the three sorts of map entry (R80, R83). -/
theorem decode_encode (i : Instr) (rest : List Byte) : decode (encode i ++ rest) = .ok (i, rest) := by
  obtain ⟨op, he, hop⟩ | ⟨op, mk, b1, he, hop, rfl⟩ | ⟨op, mk, w, he, hop, rfl⟩ := encode_cases i
  · rw [he]
    exact decode_noOperand hop rest
  · rw [he]
    exact decode_oneByte hop b1 rest
  · rw [he]
    exact (decode_twoBytes hop _ _ rest).trans (by rw [mkWord_hi8_lo8])

/-- The opcode byte of an encoding says how many bytes the encoding has (R86). -/
theorem encode_eq_cons (i : Instr) : ∃ op operands, encode i = op :: operands ∧ opcodeLength op = (encode i).length := by
  obtain ⟨op, he, hop⟩ | ⟨op, mk, b1, he, hop, -⟩ | ⟨op, mk, w, he, hop, -⟩ := encode_cases i
  all_goals exact ⟨op, _, he, by simp [opcodeLength, hop, he]⟩

theorem encode_length_le_three (i : Instr) : (encode i).length ≤ 3 := by
  obtain ⟨op, he, -⟩ | ⟨op, mk, b1, he, -⟩ | ⟨op, mk, w, he, -⟩ := encode_cases i
  all_goals simp [he]

end Sys2Proof
end

section
/-! PROOF. Byte and word access, and the stack engine in its page (spec/20_memory.md rules R52 to R54, R62 to R67). -/

namespace Sys2Proof.Machine

/-! Byte and word access (R52 to R54). -/

theorem writeByte_storedOnly (s : State) (a : Word) (v : Byte) : Spec.StoredOnly s (s.writeByte a v) a v :=
  ⟨fun _ hb => State.readByte_writeByte_other s v hb,
    fun h => ⟨State.readByte_writeByte_same h a v, State.writeByte_canonical h a v⟩⟩

/-- Settles O32, by the two rules of a byte write: what is read back, and the frame. -/
theorem byteWriteChangesOneCell : Obligations.ByteWriteChangesOneCell :=
  fun s a v => ⟨rfl, writeByte_storedOnly s a v⟩

theorem word_ne_add_one (a : Word) : a ≠ a + 1 := by bv_omega

/-- A word write leaves every cell but its two (R54). -/
theorem State.readByte_writeWord_other {a b : Word} (s : State) (w : Word) (h0 : b ≠ a) (h1 : b ≠ a + 1) :
    (s.writeWord a w).readByte b = s.readByte b := by
  rw [State.writeWord, State.readByte_writeByte_other _ _ h1, State.readByte_writeByte_other _ _ h0]

/-- The low byte of a word written lies in the first cell: the write of the high byte is to another one, at the top address
too (R54). -/
theorem State.readByte_writeWord_low {s : State} (h : s.mem.wf = true) (a w : Word) :
    (s.writeWord a w).readByte a = lo8 w := by
  rw [State.writeWord, State.readByte_writeByte_other _ _ (word_ne_add_one a), State.readByte_writeByte_same h]

theorem State.readByte_writeWord_high {s : State} (h : s.mem.wf = true) (a w : Word) :
    (s.writeWord a w).readByte (a + 1) = hi8 w :=
  State.readByte_writeByte_same (State.writeByte_canonical h a _) _ _

theorem State.readWord_writeWord {s : State} (h : s.mem.wf = true) (a w : Word) : (s.writeWord a w).readWord a = w := by
  rw [State.readWord, State.readByte_writeWord_high h, State.readByte_writeWord_low h, mkWord_hi8_lo8]

/-- Settles O33: a word access is its two byte accesses, and the two bytes of a word make it up again. -/
theorem wordAccessIsTwoBytesLittleEndian : Obligations.WordAccessIsTwoBytesLittleEndian := by
  intro s a w
  refine ⟨mkWord_toNat _ _, rfl, fun b h0 h1 => s.readByte_writeWord_other w h0 h1, fun h => ⟨?_, ?_, ?_⟩⟩
  · rw [State.readByte_writeWord_low h, lo8_toNat]
  · rw [State.readByte_writeWord_high h, hi8_toNat]
  · exact State.readWord_writeWord h a w

/-! The stack engine (R62 to R67). -/

theorem push8_storedOnly (s : State) (v : Byte) : Spec.StoredOnly s (s.push8 v) (stackAddr s.SP) v :=
  ⟨fun _ hb => State.readByte_push8_other v hb, fun h => ⟨State.readByte_push8_same h v, State.push8_canonical h v⟩⟩

/-- Settles O34: the stack address is in page 1, and a push is a byte write there. -/
theorem pushAndPopStayInTheStackPage : Obligations.PushAndPopStayInTheStackPage := by
  intro s v
  have hpush : (s.push8 v).SP.toNat = (s.SP.toNat + 255) % 256 := by
    rw [State.push8_SP]
    bv_omega
  have hdrop : s.drop8.SP.toNat = (s.SP.toNat + 1) % 256 := by
    rw [State.drop8_SP]
    bv_omega
  exact ⟨stackAddr_toNat _, rfl, hpush, push8_storedOnly s v, rfl, hdrop, rfl⟩

theorem State.top8_push8 {s : State} (h : s.mem.wf = true) (v : Byte) : (s.push8 v).top8 = v := by
  rw [State.top8, State.push8_SP, BitVec.sub_add_cancel, State.readByte_push8_same h]

theorem State.top16_push16 {s : State} (h : s.mem.wf = true) (w : Word) : (s.push16 w).top16 = w := by
  have hlow : (s.push16 w).top8 = lo8 w := State.top8_push8 (State.push8_canonical h _) _
  have hhigh : (s.push16 w).drop8.top8 = hi8 w := by
    rw [State.top8, State.drop8_SP, State.push16_SP, BitVec.sub_add_cancel, BitVec.sub_add_cancel, State.readByte_drop8,
      State.readByte_push16_high h]
  rw [State.top16, hhigh, hlow, mkWord_hi8_lo8]

theorem foldl_push8_SP (vs : List Byte) (s : State) :
    (vs.foldl State.push8 s).SP = s.SP - BitVec.ofNat 8 vs.length := by
  induction vs generalizing s with
  | nil => simp
  | cons b bs ih =>
    rw [List.foldl_cons, ih, State.push8_SP, List.length_cons, Nat.add_comm, BitVec.ofNat_add, BitVec.sub_sub]
    rfl

theorem foldl_push8_canonical {s : State} (h : s.mem.wf = true) (vs : List Byte) :
    (vs.foldl State.push8 s).mem.wf = true := by
  induction vs generalizing s with
  | nil => exact h
  | cons b bs ih => exact ih (State.push8_canonical h b)

/-- A cell outside page 1 is no stack cell (R62). -/
theorem ne_stackAddr_of_outside {a : Word} (h : a.toNat < 0x0100 ∨ 0x01FF < a.toNat) (sp : Byte) : a ≠ stackAddr sp := by
  rintro rfl
  rw [stackAddr_toNat] at h
  omega

/-- However many bytes are pushed, no cell outside page 1 changes (R62, R63). -/
theorem readByte_foldl_push8_outside {a : Word} (h : a.toNat < 0x0100 ∨ 0x01FF < a.toNat) (vs : List Byte) (s : State) :
    (vs.foldl State.push8 s).readByte a = s.readByte a := by
  induction vs generalizing s with
  | nil => rfl
  | cons b bs ih => exact (ih _).trans (State.readByte_push8_other b (ne_stackAddr_of_outside h _))

/-- Settles O35: a pop reads the cell of the push before it, and 256 pushes bring SP back to where it was. -/
theorem stackRoundTripsAndWraps : Obligations.StackRoundTripsAndWraps := by
  refine ⟨fun s v w h => ⟨State.top8_push8 h v, ?_, State.top16_push16 h w, ?_⟩, fun s vs v h hSP hlen => ?_⟩
  · rw [State.drop8_SP, State.push8_SP, BitVec.sub_add_cancel]
  · rw [State.drop16_SP, State.push16_SP, BitVec.sub_add_cancel, BitVec.sub_add_cancel]
  · have hwrap : (vs.foldl State.push8 s).SP = 0xFF := by
      rw [foldl_push8_SP, hSP, hlen]
      rfl
    have hlast : ((vs ++ [v]).foldl State.push8 s) = (vs.foldl State.push8 s).push8 v := List.foldl_concat ..
    refine ⟨?_, ?_, fun a ha => readByte_foldl_push8_outside ha _ s⟩
    · rw [hlast, State.push8_SP, hwrap]
      rfl
    · have hcell : stackAddr (vs.foldl State.push8 s).SP = 0x01FF := by rw [hwrap]; rfl
      rw [hlast, ← hcell]
      exact State.readByte_push8_same (foldl_push8_canonical h vs) v

end Sys2Proof.Machine
end

section
/-! PROOF. Which cells of memory each instruction can change (spec/20_memory.md rules R52, R58, R73). -/

namespace Sys2Proof.Machine

section
variable {s t : State} {a : Word}

/-- The end of an instruction writes PC and the counter, so a cell is what the instruction's effect left (R85 step 4). -/
theorem finish_readByte {u : State} {next : Word} {cost : Nat} (h : finish next cost u = .next t)
    (hu : u.readByte a = s.readByte a) : t.readByte a = s.readByte a := by
  obtain rfl := finish_next_iff.1 h
  exact hu

/-- A store to the place of an operand, with flags after it or not, changes no cell but the operand's (R116). -/
theorem readByte_of_quiet_store {u : State} {p : Place} {v : Byte} (hu : Quiet (storeOperand p v s) u)
    (ha : p ≠ .mem a) : u.readByte a = s.readByte a :=
  (State.readByte_congr hu.mem a).trans (storeOperand_readByte v s ha)

theorem branchOn_readByte {c : Bool} {b1 : Byte} {base : Nat} (h : branchOn c b1 base s = .next t) :
    t.readByte a = s.readByte a := by
  cases c <;> exact finish_readByte h rfl

theorem place_ne_of_not_mem {ea : Word} (ha : a ∉ [ea]) : Place.mem ea ≠ Place.mem a := by
  rintro ⟨⟩
  exact ha (List.mem_singleton_self _)

/-- Trap entry leaves every cell but the three it pushes to (R227). -/
theorem trapEntry_readByte_other (h0 : a ≠ stackAddr s.SP) (h1 : a ≠ stackAddr (s.SP - 1))
    (h2 : a ≠ stackAddr (s.SP - 2)) : (trapEntry s).readByte a = s.readByte a := by
  have e := s.push16_SP_eq (s.PC + 2)
  rw [trapEntry_readByte, State.readByte_push8_other _ (by rw [e]; exact h2), State.readByte_push16_other _ h0 h1]

/-- An instruction leaves every cell but those it stores to: the stores and read-modify-write forms reach memory at their
effective address, the pushes at the stack cells, and the rest not at all. -/
theorem exec_readByte_other {i : Instr} (h : exec i s = .next t) (ha : a ∉ Spec.storedCells i s) :
    t.readByte a = s.readByte a := by
  cases i with
  | staZp _ | staZpX _ | staAbs _ | staAbsX _ | staAbsY _ | staIndX _ | staIndY _ | stxZp _ | stxZpY _ | stxAbs _
  | styZp _ | styZpX _ | styAbs _ => exact finish_readByte h (storeOperand_readByte _ s (place_ne_of_not_mem ha))
  | incZp _ | incZpX _ | incAbs _ | incAbsX _ | decZp _ | decZpX _ | decAbs _ | decAbsX _ =>
    exact finish_readByte h (readByte_of_quiet_store (setZN_quiet _ _) (place_ne_of_not_mem ha))
  | aslZp _ | aslZpX _ | aslAbs _ | aslAbsX _ | rolZp _ | rolZpX _ | rolAbs _ | rolAbsX _ =>
    exact finish_readByte h (readByte_of_quiet_store (leftFlags_quiet _ _ _) (place_ne_of_not_mem ha))
  | lsrZp _ | lsrZpX _ | lsrAbs _ | lsrAbsX _ | rorZp _ | rorZpX _ | rorAbs _ | rorAbsX _ =>
    exact finish_readByte h (readByte_of_quiet_store (rightFlags_quiet _ _ _) (place_ne_of_not_mem ha))
  | pha | php => exact finish_readByte h (State.readByte_push8_other _ (mt List.mem_singleton.2 ha))
  | jsr w =>
    obtain ⟨h0, h1⟩ : a ≠ stackAddr s.SP ∧ a ≠ stackAddr (s.SP - 1) := by simpa [Spec.storedCells] using ha
    exact finish_readByte h (State.readByte_push16_other _ h0 h1)
  | brk =>
    obtain ⟨h0, h1, h2⟩ : a ≠ stackAddr s.SP ∧ a ≠ stackAddr (s.SP - 1) ∧ a ≠ stackAddr (s.SP - 2) := by
      simpa [Spec.storedCells] using ha
    exact finish_readByte h (trapEntry_readByte_other h0 h1 h2)
  | bcc _ | bcs _ | beq _ | bne _ | bmi _ | bpl _ | bvc _ | bvs _ => exact branchOn_readByte h
  | _ => exact finish_readByte h rfl

end

/-- Settles O19, by the instruction's shape: which of the shared store operations it goes through, and where. -/
theorem onlyStoredCellsChange : Obligations.OnlyStoredCellsChange :=
  fun _ _ _ h _ ha => exec_readByte_other h ha

end Sys2Proof.Machine
end

section
/-! PROOF. Code lies in the same memory as data: what is written at PC is what the next step runs (spec/20_memory.md rules R50
and R71, spec/30_encoding.md rules R83 and R85). -/

namespace Sys2Proof.Machine

open Spec (writeBytes)

@[simp] theorem writeBytes_PC (a : Word) (bs : List Byte) (s : State) : (writeBytes a bs s).PC = s.PC := by
  induction bs generalizing a s with
  | nil => rfl
  | cons b bs ih => exact ih _ _

@[simp] theorem writeBytes_fault (a : Word) (bs : List Byte) (s : State) : (writeBytes a bs s).fault = s.fault := by
  induction bs generalizing a s with
  | nil => rfl
  | cons b bs ih => exact ih _ _

theorem add_one_add_ofNat (a : Word) (k : Nat) : a + 1 + BitVec.ofNat 16 k = a + BitVec.ofNat 16 (k + 1) := by
  rw [Nat.add_comm, BitVec.ofNat_add, BitVec.add_assoc]
  rfl

/-- Bytes written one after another leave every cell but theirs (R52). -/
theorem readByte_writeBytes_other {a b : Word} {bs : List Byte} (s : State)
    (h : ∀ k < bs.length, b ≠ a + BitVec.ofNat 16 k) : (writeBytes a bs s).readByte b = s.readByte b := by
  induction bs generalizing a s with
  | nil => rfl
  | cons v bs ih =>
    have hhead : b ≠ a := by simpa using h 0 (Nat.succ_pos _)
    have htail : ∀ k < bs.length, b ≠ a + 1 + BitVec.ofNat 16 k := fun k hk => by
      rw [add_one_add_ofNat]
      exact h (k + 1) (Nat.succ_lt_succ hk)
    rw [writeBytes, ih _ htail, State.readByte_writeByte_other _ _ hhead]

/-- Bytes written one after another are read back, with wrap at 0xFFFF, as long as they do not come round to their first cell
(R50, R52). -/
theorem readByte_writeBytes {a : Word} {bs : List Byte} {s : State} (hs : s.mem.wf = true) (hbs : bs.length ≤ 65536)
    {k : Nat} (hk : k < bs.length) : (writeBytes a bs s).readByte (a + BitVec.ofNat 16 k) = bs[k] := by
  induction bs generalizing a s k with
  | nil => cases hk
  | cons v bs ih =>
    rw [List.length_cons] at hbs hk
    cases k with
    | zero =>
      have hlater : ∀ k < bs.length, a + BitVec.ofNat 16 0 ≠ a + 1 + BitVec.ofNat 16 k := fun k _ => by bv_omega
      rw [writeBytes, readByte_writeBytes_other _ hlater, BitVec.add_zero,
        State.readByte_writeByte_same hs, List.getElem_cons_zero]
    | succ k =>
      rw [writeBytes, ← add_one_add_ofNat, List.getElem_cons_succ]
      exact ih (State.writeByte_canonical hs a v) (by omega) (by omega)

/-- The fetch reads the encoding written at PC, all of it and no more: its opcode byte says how many bytes to read (R86). -/
theorem fetchBytes_writeBytes_encode {s : State} (hs : s.mem.wf = true) (i : Instr) :
    fetchBytes (writeBytes s.PC (encode i) s) = encode i := by
  have hlen : (encode i).length ≤ 65536 := (encode_length_le_three i).trans (by decide)
  obtain ⟨op, operands, he, hop⟩ := encode_eq_cons i
  have hhead : (writeBytes s.PC (encode i) s).readByte s.PC = op := by
    have h0 := readByte_writeBytes (a := s.PC) hs hlen (k := 0) (by simp [he])
    simpa [he] using h0
  rw [fetchBytes, writeBytes_PC, hhead, hop]
  refine List.ext_getElem (by simp) fun k hk _ => ?_
  rw [List.getElem_map, List.getElem_range]
  exact readByte_writeBytes hs hlen _

/-- Settles O6: the fetch reads back the bytes written, and they decode to the instruction they encode. -/
theorem storedInstructionIsFetchedAndRun : Obligations.StoredInstructionIsFetchedAndRun := by
  intro s i hs hf
  have hfetch : fetch (writeBytes s.PC (encode i) s) = .ok (i, []) := by
    rw [fetch, fetchBytes_writeBytes_encode hs]
    simpa using decode_encode i []
  exact step_fetched ((writeBytes_fault _ _ s).trans hf) hfetch

end Sys2Proof.Machine
end

section
/-! PROOF. Encoding and decoding undo each other, and the opcode byte alone says whether there is an instruction and how long it
is (spec/30_encoding.md rules R80 to R93). -/

namespace Sys2Proof

/-- Settles O1: the encoder writes what the map entry of its opcode byte reads back. -/
theorem decodeEncodeRoundTrip : Obligations.DecodeEncodeRoundTrip :=
  decode_encode

/-- The instructions a map entry stands for are encoded as the opcode byte and the operand bytes the entry asks for, low byte
first (R80, R83). -/
def OpcodeEntry.EncodedUnder (op : Byte) : OpcodeEntry → Prop
  | .noOperand i => encode i = [op]
  | .oneByte mk => ∀ b1, encode (mk b1) = [op, b1]
  | .twoBytes mk => ∀ w, encode (mk w) = [op, lo8 w, hi8 w]

/-- The encoder agrees with the opcode map row by row (R89). -/
theorem encodedUnder_of_opcodeMap {op : Byte} {e : OpcodeEntry} (h : opcodeMap op = some e) : e.EncodedUnder op := by
  have hop : op = BitVec.ofNat 8 op.toNat := by simp
  rw [hop]
  unfold opcodeMap at h
  generalize op.toNat = n at h
  split at h <;> cases h
  all_goals
    simp only [OpcodeEntry.EncodedUnder]
    intros
    rfl

/-- What decodes is the encoding of what it decodes to, by the three ways a decoding can succeed (R80, R89). -/
theorem eq_encode_of_decode {bytes rest : List Byte} {i : Instr} (h : decode bytes = .ok (i, rest)) :
    bytes = encode i ++ rest := by
  obtain ⟨op, hop, rfl⟩ | ⟨op, mk, b1, hop, rfl, rfl⟩ | ⟨op, mk, b1, b2, hop, rfl, rfl⟩ := decode_ok_cases h
  · have he : encode i = [op] := encodedUnder_of_opcodeMap hop
    rw [he, List.singleton_append]
  · have he : encode (mk b1) = [op, b1] := encodedUnder_of_opcodeMap hop b1
    rw [he]
    rfl
  · have he : encode (mk (mkWord b2 b1)) = [op, lo8 (mkWord b2 b1), hi8 (mkWord b2 b1)] :=
      encodedUnder_of_opcodeMap hop _
    rw [he, lo8_mkWord, hi8_mkWord]
    rfl

/-- Settles O2: each entry of the opcode map holds the encoder to its opcode byte. -/
theorem encodeDecodeRoundTrip : Obligations.EncodeDecodeRoundTrip :=
  fun _ _ _ => eq_encode_of_decode

/-- How many operand bytes a map entry asks for (R86). -/
def OpcodeEntry.operandCount : OpcodeEntry → Nat
  | .noOperand _ => 0
  | .oneByte _ => 1
  | .twoBytes _ => 2

theorem OpcodeEntry.operandCount_cases (e : OpcodeEntry) :
    e.operandCount = 0 ∨ e.operandCount = 1 ∨ e.operandCount = 2 := by
  cases e <;> simp [operandCount]

/-- With the operand bytes its opcode byte asks for, an instruction is decoded and the rest is left (R86). -/
theorem exists_decode_of_length_eq {op : Byte} {e : OpcodeEntry} {operands : List Byte} (h : opcodeMap op = some e)
    (hlen : operands.length = e.operandCount) (rest : List Byte) : ∃ i, decode (op :: operands ++ rest) = .ok (i, rest) := by
  cases e with
  | noOperand i =>
    obtain rfl := List.length_eq_zero_iff.1 hlen
    exact ⟨i, decode_noOperand h rest⟩
  | oneByte mk =>
    obtain ⟨b1, rfl⟩ := List.length_eq_one_iff.1 hlen
    exact ⟨mk b1, decode_oneByte h b1 rest⟩
  | twoBytes mk =>
    obtain ⟨b1, b2, rfl⟩ := List.length_eq_two.1 hlen
    exact ⟨mk (mkWord b2 b1), decode_twoBytes h b1 b2 rest⟩

/-- With fewer the list is refused as truncated (notes/assumptions/10.md). -/
theorem decode_of_length_lt {op : Byte} {e : OpcodeEntry} {operands : List Byte} (h : opcodeMap op = some e)
    (hlen : operands.length < e.operandCount) : decode (op :: operands) = .error (.truncated op) := by
  cases e with
  | noOperand i => cases hlen
  | oneByte mk =>
    obtain rfl := List.length_eq_zero_iff.1 (Nat.lt_one_iff.1 hlen)
    simp [decode, h]
  | twoBytes mk =>
    match operands, hlen with
    | [], _ => simp [decode, h]
    | [b1], _ => simp [decode, h]

theorem encode_length (i : Instr) : (encode i).length = i.length := by cases i <;> rfl

/-- A decoding takes as many bytes as the format of its instruction has (R81, R86). -/
theorem length_eq_of_decode {bytes rest : List Byte} {i : Instr} (h : decode (bytes ++ rest) = .ok (i, rest)) :
    i.length = bytes.length := by
  rw [List.append_cancel_right (eq_encode_of_decode h), encode_length]

/-- Settles O3: the map entry of the opcode byte, or its absence, decides. -/
theorem decodingIsTotalAndByOpcode : Obligations.DecodingIsTotalAndByOpcode := by
  refine ⟨rfl, by decide, fun op => ?_⟩
  split
  case isTrue hop => exact decode_illegal ((mem_illegalOpcodes_iff op).1 hop)
  case isFalse hop =>
    obtain ⟨e, he⟩ := Option.ne_none_iff_exists'.1 (mt (mem_illegalOpcodes_iff op).2 hop)
    refine ⟨e.operandCount, e.operandCount_cases, fun operands rest hlen => ?_, fun operands => decode_of_length_lt he⟩
    obtain ⟨i, hi⟩ := exists_decode_of_length_eq he hlen rest
    exact ⟨i, hi, by rw [length_eq_of_decode hi, List.length_cons, hlen]⟩

/-- Settles O4: the map rows of the words' opcode bytes, and the order of their operand bytes. -/
theorem writtenOutWordsDecode : Obligations.WrittenOutWordsDecode :=
  ⟨rfl, rfl, rfl, rfl, rfl, rfl, rfl, rfl, rfl, rfl⟩

end Sys2Proof

namespace Sys2Proof.Machine

/-- The fetch reads as many of the three bytes at PC as the opcode byte says (R83, R86). -/
theorem fetchBytes_eq_take (s : State) :
    fetchBytes s =
      [s.readByte s.PC, s.readByte (s.PC + 1), s.readByte (s.PC + 2)].take (opcodeLength (s.readByte s.PC)) := by
  have hlen : opcodeLength (s.readByte s.PC) = 1 ∨ opcodeLength (s.readByte s.PC) = 2 ∨
      opcodeLength (s.readByte s.PC) = 3 := by
    unfold opcodeLength
    split <;> simp
  obtain h | h | h := hlen
  all_goals simp [fetchBytes, h, List.range_succ]

/-- What the three bytes at PC decode to is fetched: its encoding is as long as its opcode byte says (R83, R86). -/
theorem fetch_of_decode {s : State} {i : Instr} {rest : List Byte}
    (h : decode [s.readByte s.PC, s.readByte (s.PC + 1), s.readByte (s.PC + 2)] = .ok (i, rest)) :
    fetch s = .ok (i, []) := by
  have hbytes := eq_encode_of_decode h
  obtain ⟨op, operands, he, hop⟩ := encode_eq_cons i
  have hhead : s.readByte s.PC = op := by
    rw [he] at hbytes
    exact (List.cons.inj hbytes).1
  rw [fetch, fetchBytes_eq_take, hbytes, hhead, hop, List.take_left]
  simpa using decode_encode i []

/-- Settles O5: what the bytes at PC decode to is what is fetched. -/
theorem stepRunsTheDecodedInstruction : Obligations.StepRunsTheDecodedInstruction :=
  fun _ _ _ hf h => step_fetched hf (fetch_of_decode h)

end Sys2Proof.Machine
end

section
/-! PROOF. What a completed step adds to the cycle counter (spec/30_encoding.md rules R95, R96). -/

namespace Sys2Proof.Machine

@[simp] theorem trapEntry_cycles (s : State) : (trapEntry s).cycles = s.cycles := by simp [trapEntry]

/-- From `s` to `t` the counter has grown by an amount within the bounds of R96. -/
def CostInRange (s t : State) : Prop := s.cycles + 2 ≤ t.cycles ∧ t.cycles ≤ s.cycles + 7

section
variable {s t u : State} {next : Word} {cost : Nat}

/-- The end of an instruction adds its cost to the counter, which the instruction's effect left alone (R85 step 4). -/
theorem finish_costInRange (h : finish next cost u = .next t) (hu : u.cycles = s.cycles) (h2 : 2 ≤ cost) (h7 : cost ≤ 7) :
    CostInRange s t := by
  obtain rfl := finish_next_iff.1 h
  simp only [CostInRange, State.addCycles_cycles, State.setPC_cycles, hu]
  omega

/-- A branch costs two to four cycles (R175). -/
theorem branchOn_costInRange {c : Bool} {b1 : Byte} (h : branchOn c b1 2 s = .next t) : CostInRange s t := by
  cases c with
  | false => exact finish_costInRange h rfl (by decide) (by decide)
  | true =>
    have hcross : bitNat (pageCross (branchNext s) (branchTarget b1 s)) ≤ 1 := penaltyCycles_le_one .pageCross _
    exact finish_costInRange h rfl (by omega) (by omega)

/-- Every shape of an instruction costs two to seven cycles: a read form, the only one with the page-cross penalty, has a base
cost of at most six (R95, R114). -/
theorem ExecShape.costInRange {r : Result} (h : ExecShape s r) (hr : r = .next t) : CostInRange s t := by
  cases h with
  | read f o base p hf h2 h6 =>
    have hextra := penaltyCycles_le_one p (crosses o s)
    exact finish_costInRange hr (hf _ s).cycles (by omega) (by omega)
  | store v o base h2 h7 => exact finish_costInRange hr (storeOperand_cycles _ v s) h2 h7
  | modify f g o base hg h2 h7 =>
    exact finish_costInRange hr ((hg _ _ _).cycles.trans (storeOperand_cycles _ _ s)) h2 h7
  | implied f base hf h2 h7 => exact finish_costInRange hr (hf s).cycles h2 h7
  | push v base h2 h7 => exact finish_costInRange hr (State.push8_cycles s (v s)) h2 h7
  | branch c b1 => exact branchOn_costInRange hr
  | jump w base h2 h7 => exact finish_costInRange hr rfl h2 h7
  | call w => exact finish_costInRange hr (State.push16_cycles s _) (by decide) (by decide)
  | ret => exact finish_costInRange hr (State.drop16_cycles s) (by decide) (by decide)
  | trap => exact finish_costInRange hr (trapEntry_cycles s) (by decide) (by decide)
  | trapReturn =>
    have hkept : (unpackP s.drop8 s.top8).drop16.cycles = s.cycles := by simp
    exact finish_costInRange hr hkept (by decide) (by decide)

end

/-- A completed step is one that ran an instruction: an illegal opcode byte leaves the latch set (R39, R224). -/
theorem exec_of_completes {s t : State} (h : Completes s t) : ∃ i, exec i s = .next t := by
  obtain ⟨hnext, hrunning⟩ := h
  obtain ⟨f, -, hstep⟩ | ⟨i, -, -, hstep⟩ | ⟨-, -, hstep⟩ := step_cases s
  · cases hstep.symm.trans hnext
  · exact ⟨i, hstep.symm.trans hnext⟩
  · cases hstep.symm.trans hnext
    cases hrunning

/-- Settles O26: a completed step ran an instruction, and each of the shapes stays within the bounds. -/
theorem completedStepCostsTwoToSeven : Obligations.CompletedStepCostsTwoToSeven := by
  intro s t h
  obtain ⟨i, hi⟩ := exec_of_completes h
  exact (exec_shape i s).costInRange hi

end Sys2Proof.Machine
end

section
/-! PROOF. The effective addresses of the memory modes, the page they are compared with, and the target of JMP indirect
(spec/40_addressing_modes.md rules R104 to R115, spec/44_branch_jump.md rule R184). -/

namespace Sys2Proof.Machine

theorem zext16_eq_zeroExtend (b : Byte) : zext16 b = b.zeroExtend 16 := by
  apply BitVec.eq_of_toNat_eq
  rw [zext16_toNat]
  exact (BitVec.toNat_setWidth_of_le (by decide)).symm

/-- An index added before the extension stays in page 0 (R105, R106). -/
theorem zext16_add_toNat (b index : Byte) : (zext16 (b + index)).toNat = (b.toNat + index.toNat) % 256 := by
  rw [zext16_toNat, BitVec.toNat_add]

/-- An index added after the extension wraps at 0xFFFF only (R108, R109). -/
theorem add_zext16_toNat (a : Word) (index : Byte) : (a + zext16 index).toNat = (a.toNat + index.toNat) % 65536 := by
  rw [BitVec.toNat_add, zext16_toNat]

/-- Two addresses are in different pages when their numbers are, in units of 256 (R115). -/
theorem pageCross_eq_decide_toNat (a b : Word) : pageCross a b = decide (a.toNat / 256 ≠ b.toNat / 256) := by
  rw [pageCross, ← hi8_toNat, ← hi8_toNat, decide_eq_decide]
  exact BitVec.toNat_ne_iff_ne.symm

theorem pageCross_add_zext16 (a : Word) (index : Byte) :
    pageCross a (a + zext16 index) = decide (a.toNat / 256 ≠ (a.toNat + index.toNat) % 65536 / 256) := by
  rw [pageCross_eq_decide_toNat, add_zext16_toNat]

/-- An index smaller than a page changes the page exactly by a carry out of the low byte, at the top of memory too (R115). -/
theorem add_index_changes_page_iff {a index : Nat} (ha : a < 65536) (hindex : index < 256) :
    a / 256 ≠ (a + index) % 65536 / 256 ↔ 0xFF < a % 256 + index := by omega

/-- A mode that adds its index before the address is formed, or adds none, reports no crossing (R100). -/
theorem crosses_eq_false {o : Operand} {s : State} (h : effAddr o s = baseAddr o s) : crosses o s = false := by
  rw [crosses, h, pageCross_self]

/-- Both bytes of a zero-page pointer come from page 0, the address of the high byte wrapping within it (R110, R111). -/
theorem zeroPagePointer_toNat (z : Byte) (s : State) :
    (zeroPagePointer z s).toNat =
      (s.readByte (BitVec.ofNat 16 ((z.toNat + 1) % 256))).toNat * 256 + (s.readByte (BitVec.ofNat 16 z.toNat)).toNat :=
  mkWord_toNat _ _

/-- The mask 0xFF00 gives the start of an address's page. -/
theorem and_page_mask_toNat (w : Word) : (w &&& 0xFF00).toNat = w.toNat / 256 * 256 := by
  have hshift : w &&& (0xFF00 : Word) = w >>> 8 <<< 8 := by
    ext i hi
    interval_cases i <;> simp
  rw [hshift, BitVec.toNat_shiftLeft, BitVec.toNat_ushiftRight, Nat.shiftRight_eq_div_pow, Nat.shiftLeft_eq]
  omega

/-- The address of JMP indirect's high byte: the next one, but after 0xFF the start of the same page (R112). -/
theorem next_within_page_eq (w : Word) :
    mkWord (hi8 w) (lo8 w + 1) = if w.toNat % 256 = 0xFF then w &&& 0xFF00 else w + 1 := by
  apply BitVec.eq_of_toNat_eq
  have hnext : (mkWord (hi8 w) (lo8 w + 1)).toNat = w.toNat / 256 * 256 + (w.toNat % 256 + 1) % 256 := by
    rw [mkWord_toNat, hi8_toNat, BitVec.toNat_add, lo8_toNat]
    rfl
  rw [hnext]
  split
  case isTrue hlast =>
    rw [and_page_mask_toNat]
    omega
  case isFalse hlast =>
    have hw := w.isLt
    have hplus : (w + 1).toNat = (w.toNat + 1) % 65536 := BitVec.toNat_add w 1
    rw [hplus]
    omega

theorem indirectTarget_toNat (w : Word) (s : State) :
    (indirectTarget w s).toNat =
      (s.readByte (if w.toNat % 256 = 0xFF then w &&& 0xFF00 else w + 1)).toNat * 256 + (s.readByte w).toNat := by
  rw [indirectTarget, next_within_page_eq, mkWord_toNat]

/-- The end of an instruction writes PC and the counter, and nothing else (R85 step 4). -/
theorem finish_eq_update (next : Word) (cost : Nat) (s : State) :
    finish next cost s = .next { s with PC := next, cycles := s.cycles + cost } := rfl

/-- Settles O28: the index is added to the word as a word, and the page of the sum is compared with the word's. -/
theorem absoluteModesWrapAndCompareHighBytes : Obligations.AbsoluteModesWrapAndCompareHighBytes := by
  intro w s
  refine ⟨⟨rfl, rfl, crosses_eq_false rfl⟩, ⟨rfl, add_zext16_toNat w s.X, rfl, pageCross_add_zext16 w s.X⟩,
    ⟨rfl, add_zext16_toNat w s.Y, rfl, pageCross_add_zext16 w s.Y⟩, finish_eq_update w 3 s, fun t ht => ?_⟩
  obtain rfl := finish_next_iff.1 ht
  rfl

/-- Settles O29: the address is the zero-page pointer at the operand byte plus X. -/
theorem indirectXPointerStaysInPageZero : Obligations.IndirectXPointerStaysInPageZero := by
  intro b1 s z
  have hz : (b1 + s.X).toNat = z := BitVec.toNat_add b1 s.X
  refine ⟨rfl, ?_, rfl, crosses_eq_false rfl⟩
  rw [← hz]
  exact zeroPagePointer_toNat (b1 + s.X) s

/-- Settles O30: Y is added to the zero-page pointer at the operand byte as to a word. -/
theorem indirectYAddsYToThePointer : Obligations.IndirectYAddsYToThePointer := by
  intro b1 s pointer
  have hpointer : (zeroPagePointer b1 s).toNat = pointer := zeroPagePointer_toNat b1 s
  rw [← hpointer]
  exact ⟨rfl, add_zext16_toNat _ s.Y, rfl, pageCross_add_zext16 _ s.Y⟩

/-- Settles O31: the high bytes are the addresses in units of 256, which an index below 256 changes by a carry only. -/
theorem pageCrossIsACarryOutOfTheLowByte : Obligations.PageCrossIsACarryOutOfTheLowByte := by
  refine ⟨pageCross_eq_decide_toNat, fun a index => ?_⟩
  rw [← zext16_eq_zeroExtend, pageCross_add_zext16, decide_eq_decide]
  exact add_index_changes_page_iff a.isLt index.isLt

/-- Settles O51: the jump's end writes PC and the counter, and the pointer's second byte is in the first one's page. -/
theorem jumpIndirectKeepsThePageDefect : Obligations.JumpIndirectKeepsThePageDefect :=
  fun w s => ⟨⟨rfl, finish_eq_update w 3 s⟩, rfl, _, finish_eq_update (indirectTarget w s) 5 s, rfl,
    indirectTarget_toNat w s⟩

/-- Settles O27: the index is added to the operand byte as a byte, and the sum is the address. -/
theorem zeroPageModesStayInPageZero : Obligations.ZeroPageModesStayInPageZero :=
  fun b1 s => ⟨⟨rfl, zext16_toNat b1, rfl, crosses_eq_false rfl⟩,
    ⟨rfl, zext16_add_toNat b1 s.X, rfl, crosses_eq_false rfl⟩,
    ⟨rfl, zext16_add_toNat b1 s.Y, rfl, crosses_eq_false rfl⟩⟩

end Sys2Proof.Machine
end

section
/-! PROOF. The forms a rule lists: their encoding, length, cost and operand byte, and the instructions that have the shape of
a read or of a store in every form (spec/30_encoding.md rules R80, R85, spec/40_addressing_modes.md rules R114, R116). -/

namespace Sys2Proof.Spec

open Sys2Proof.Machine

/-- The penalty class of a form: the `+` of its `Cycles` line (R114). -/
def Form.penalty (f : Form) : Penalty := if f.plus = true then .pageCross else .none

section
variable {f : Form} {s : State}

theorem Form.isEncoded_of_encode (h : encode f.instr = f.bytes) : f.IsEncoded :=
  ⟨h, fun rest => by rw [← h, decode_encode]⟩

theorem Form.loadOperand_eq_loaded : loadOperand (placeOf f.operand s) s = f.loaded s := by
  obtain ⟨op, operand, instr, cycles, plus⟩ := f
  cases operand <;> rfl

theorem Form.pc_add_operandLength : s.PC + operandLength f.operand = f.next s := by
  obtain ⟨op, operand, instr, cycles, plus⟩ := f
  cases operand <;> rfl

/-- The penalty is charged where the entry has the `+` and the two high bytes differ (R114, R115). -/
theorem Form.cycles_add_penalty : f.cycles + penaltyCycles f.penalty (crosses f.operand s) = f.cost s := by
  cases hplus : f.plus with
  | false => simp [Form.cost, Form.penalty, hplus]
  | true => simp [Form.cost, Form.penalty, hplus, penaltyCycles, bitNat, crosses, pageCross]

theorem Form.cost_of_no_plus (h : f.plus = false) : f.cost s = f.cycles := by simp [Form.cost, h]

end

/-- A form whose instruction has the shape of a read, with `op` for the byte read. -/
structure Form.Reads (op : Byte → State → State) (f : Form) : Prop where
  encoded : encode f.instr = f.bytes
  exec_eq : ∀ s, exec f.instr s = readForm op f.operand f.cycles f.penalty s

/-- A read form answers what its rule says, in the rule's own terms of operand byte, length and cost (R85, R114, R116). -/
theorem Form.Reads.exec_eq_next {op : Byte → State → State} {f : Form} (h : f.Reads op) (hop : ∀ v t, Quiet t (op v t))
    (s : State) :
    exec f.instr s = .next { op (f.loaded s) s with PC := f.next s, cycles := s.cycles + f.cost s } := by
  rw [h.exec_eq, readForm, Form.loadOperand_eq_loaded, Form.pc_add_operandLength, Form.cycles_add_penalty,
    finish_eq_update, (hop _ s).cycles]

theorem readsAs_of_reads {forms : Byte → Word → List Form} {op effect : Byte → State → State}
    (hop : ∀ v t, Quiet t (op v t)) (heffect : ∀ v t, op v t = effect v t)
    (h : ∀ b1 w, ∀ f ∈ forms b1 w, f.Reads op) : ReadsAs forms effect := by
  intro b1 w f hf
  have hreads := h b1 w f hf
  refine ⟨Form.isEncoded_of_encode hreads.encoded, fun s => ?_⟩
  rw [hreads.exec_eq_next hop, heffect]

/-- A form whose instruction has the shape of a store of the register `reg`, to memory and without a penalty (R124). -/
structure Form.Stores (reg : State → Byte) (f : Form) : Prop where
  encoded : encode f.instr = f.bytes
  no_plus : f.plus = false
  in_memory : ∀ s, placeOf f.operand s = .mem (effAddr f.operand s)
  exec_eq : ∀ s, exec f.instr s = storeForm (reg s) f.operand f.cycles s

/-- A store form writes one byte and ends as every instruction does (R85, R116, R124). -/
theorem Form.Stores.exec_eq_next {reg : State → Byte} {f : Form} (h : f.Stores reg) (s : State) :
    exec f.instr s =
      .next { s.writeByte (effAddr f.operand s) (reg s) with PC := f.next s, cycles := s.cycles + f.cost s } := by
  rw [h.exec_eq, storeForm, h.in_memory, Form.pc_add_operandLength, Form.cost_of_no_plus h.no_plus, storeOperand,
    finish_eq_update, State.writeByte_cycles]

theorem storesAs_of_stores {forms : Byte → Word → List Form} {reg : State → Byte}
    (h : ∀ b1 w, ∀ f ∈ forms b1 w, f.Stores reg) : StoresAs forms reg := by
  intro b1 w f hf
  have hstores := h b1 w f hf
  exact ⟨Form.isEncoded_of_encode hstores.encoded,
    fun s => ⟨_, hstores.exec_eq_next s, rfl, writeByte_storedOnly s (effAddr f.operand s) (reg s)⟩⟩

end Sys2Proof.Spec
end

section
/-! PROOF. The stores, the loads and the register transfers (spec/41_load_store.md rules R121 to R130, spec/45_stack.md rules
R199 and R200). -/

namespace Sys2Proof.Machine

open Spec

theorem staForms_store (b1 : Byte) (w : Word) : ∀ f ∈ staForms b1 w, f.Stores State.A := by
  intro f hf
  fin_cases hf <;> exact ⟨rfl, rfl, fun _ => rfl, fun _ => rfl⟩

theorem stxForms_store (b1 : Byte) (w : Word) : ∀ f ∈ stxForms b1 w, f.Stores State.X := by
  intro f hf
  fin_cases hf <;> exact ⟨rfl, rfl, fun _ => rfl, fun _ => rfl⟩

theorem styForms_store (b1 : Byte) (w : Word) : ∀ f ∈ styForms b1 w, f.Stores State.Y := by
  intro f hf
  fin_cases hf <;> exact ⟨rfl, rfl, fun _ => rfl, fun _ => rfl⟩

/-- Settles O39: each form is a store of its register, which is one byte write and the end of an instruction. -/
theorem storesWriteTheirRegister : Obligations.StoresWriteTheirRegister :=
  ⟨storesAs_of_stores staForms_store, storesAs_of_stores stxForms_store, storesAs_of_stores styForms_store⟩

/-! A load is a register write and the Z and N contract (R35). -/

theorem loadA_eq_withZN (v : Byte) (s : State) : loadA v s = withZN { s with A := v } v := rfl
theorem loadX_eq_withZN (v : Byte) (s : State) : loadX v s = withZN { s with X := v } v := rfl
theorem loadY_eq_withZN (v : Byte) (s : State) : loadY v s = withZN { s with Y := v } v := rfl

theorem ldaForms_read (b1 : Byte) (w : Word) : ∀ f ∈ ldaForms b1 w, f.Reads loadA := by
  intro f hf
  fin_cases hf <;> exact ⟨rfl, fun _ => rfl⟩

theorem ldxForms_read (b1 : Byte) (w : Word) : ∀ f ∈ ldxForms b1 w, f.Reads loadX := by
  intro f hf
  fin_cases hf <;> exact ⟨rfl, fun _ => rfl⟩

theorem ldyForms_read (b1 : Byte) (w : Word) : ∀ f ∈ ldyForms b1 w, f.Reads loadY := by
  intro f hf
  fin_cases hf <;> exact ⟨rfl, fun _ => rfl⟩

/-- Settles O38: each form is a read whose byte is loaded into the register. -/
theorem loadsFillTheirRegister : Obligations.LoadsFillTheirRegister :=
  ⟨readsAs_of_reads loadA_quiet loadA_eq_withZN ldaForms_read, readsAs_of_reads loadX_quiet loadX_eq_withZN ldxForms_read,
    readsAs_of_reads loadY_quiet loadY_eq_withZN ldyForms_read⟩

/-- An implied instruction ends one byte further, its effect's fields kept but for PC and the counter (R85, R101). -/
theorem impliedForm_eq_update (f : State → State) (base : Nat) (s : State) :
    impliedForm f base s = .next { f s with PC := s.PC + 1, cycles := (f s).cycles + base } :=
  finish_eq_update (s.PC + 1) base (f s)

/-- Settles O40: a transfer is an implied instruction that loads the source's byte, or for TXS writes SP only. -/
theorem transfersMoveAByte : Obligations.TransfersMoveAByte := by
  refine ⟨⟨rfl, rfl, rfl, rfl, rfl, rfl⟩, fun s => ?_⟩
  simp only [exec_tax, exec_tay, exec_txa, exec_tya, exec_tsx, exec_txs, impliedForm_eq_update, loadA_eq_withZN,
    loadX_eq_withZN, loadY_eq_withZN]
  exact ⟨rfl, rfl, rfl, rfl, rfl, rfl⟩

end Sys2Proof.Machine
end

section
/-! PROOF. The adder and its use by ADC and SBC, the compares, and INX, INY, DEX and DEY (spec/42_arithmetic.md rules R141 to
R145, R147, R148 and R150 to R153). -/

namespace Sys2Proof.Machine

open Spec

/-! The adder (R152). -/

theorem carryInt_eq_toNat (c : Bool) : carryInt c = c.toNat := by cases c <;> rfl

theorem addWithCarry_result (a m : Byte) (c : Bool) :
    (addWithCarry a m c).result = BitVec.ofNat 8 (a.toNat + m.toNat + c.toNat) := by
  rw [addWithCarry, bitNat_eq_toNat]

theorem addWithCarry_carry (a m : Byte) (c : Bool) :
    (addWithCarry a m c).carry = decide (0xFF < a.toNat + m.toNat + c.toNat) := by
  rw [addWithCarry, bitNat_eq_toNat]

theorem and_0x80_ne_zero_iff_msb : ∀ b : Byte, b &&& 0x80 ≠ 0 ↔ b.msb = true := by decide

/-- The bit formula: the result's sign bit differs from the sign bits of both operands (R152). -/
theorem addWithCarry_overflow_iff_msb (a m : Byte) (c : Bool) :
    (addWithCarry a m c).overflow = true ↔
      a.msb ≠ (addWithCarry a m c).result.msb ∧ m.msb ≠ (addWithCarry a m c).result.msb := by
  simp only [addWithCarry, decide_eq_true_eq, and_0x80_ne_zero_iff_msb, BitVec.msb_and, BitVec.msb_xor,
    Bool.and_eq_true, bne_iff_ne]

/-- A byte read as a signed number, by its value as an unsigned one. -/
theorem byte_toInt (b : Byte) : b.toInt = if b.toNat < 128 then (b.toNat : Int) else b.toNat - 256 := by
  rw [BitVec.toInt_eq_toNat_cond]
  split <;> split <;> omega

/-- The sign bit of the sum is wrong exactly when the signed sum leaves the range of a byte (R152). -/
theorem addWithCarry_overflow (a m : Byte) (c : Bool) :
    (addWithCarry a m c).overflow = decide (OutOfRange (a.toInt + m.toInt + carryInt c)) := by
  have ha := a.isLt
  have hm := m.isLt
  have hc := c.toNat_le
  rw [Bool.eq_iff_iff, addWithCarry_overflow_iff_msb, decide_eq_true_iff, addWithCarry_result, carryInt_eq_toNat,
    byte_toInt, byte_toInt]
  simp only [BitVec.msb_eq_decide, BitVec.toNat_ofNat, ne_eq, decide_eq_decide, OutOfRange]
  split <;> split <;> omega

/-- Settles O37: the result and the carry are the adder's own, and its overflow bit is a sign bit gone wrong. -/
theorem adderCarryAndSignedOverflow : Obligations.AdderCarryAndSignedOverflow := by
  intro a m c r
  refine ⟨?_, addWithCarry_carry a m c, rfl, addWithCarry_overflow a m c⟩
  exact (congrArg BitVec.toNat (addWithCarry_result a m c)).trans (BitVec.toNat_ofNat ..)

/-! ADC and SBC put what the adder gives into A and four flags (R141, R142). -/

theorem addToA_eq_withZN (m : Byte) (s : State) :
    addToA m s =
      withZN { s with A := (addWithCarry s.A m s.C).result, C := (addWithCarry s.A m s.C).carry,
                      V := (addWithCarry s.A m s.C).overflow } (addWithCarry s.A m s.C).result := rfl

theorem adcForms_read (b1 : Byte) (w : Word) : ∀ f ∈ adcForms b1 w, f.Reads adcA := by
  intro f hf
  fin_cases hf <;> exact ⟨rfl, fun _ => rfl⟩

/-- Settles O41: each form is a read whose byte goes through the adder with A and C. -/
theorem adcAddsWithCarry : Obligations.AdcAddsWithCarry := by
  refine readsAs_of_reads adcA_quiet (fun m s => ?_) adcForms_read
  rw [adcA, addToA_eq_withZN, addWithCarry_result, addWithCarry_carry, addWithCarry_overflow]

/-! The adder with a complemented operand subtracts: the complement of `m` is `255 - m`, and as a signed byte `-1 - m`. -/

theorem byte_not_toNat (m : Byte) : (~~~m).toNat = 255 - m.toNat := BitVec.toNat_not

theorem byte_not_toInt (m : Byte) : (~~~m).toInt = -1 - m.toInt := by
  have hm := m.isLt
  rw [byte_toInt, byte_toInt, byte_not_toNat]
  split <;> split <;> omega

section
variable (a m : Byte) (c : Bool)

theorem addWithCarry_not_result :
    (addWithCarry a (~~~m) c).result = BitVec.ofInt 8 (a.toNat - m.toNat - (1 - carryInt c)) := by
  have hm := m.isLt
  rw [addWithCarry_result, byte_not_toNat, carryInt_eq_toNat]
  apply BitVec.eq_of_toNat_eq
  rw [BitVec.toNat_ofNat, BitVec.toNat_ofInt]
  omega

/-- There is a carry out of the sum exactly when the difference needs no borrow (R142). -/
theorem addWithCarry_not_carry :
    (addWithCarry a (~~~m) c).carry = decide (0 ≤ (a.toNat : Int) - m.toNat - (1 - carryInt c)) := by
  have hm := m.isLt
  rw [addWithCarry_carry, byte_not_toNat, carryInt_eq_toNat, decide_eq_decide]
  omega

theorem addWithCarry_not_overflow :
    (addWithCarry a (~~~m) c).overflow = decide (OutOfRange (a.toInt - m.toInt - (1 - carryInt c))) := by
  have hdifference : a.toInt + (-1 - m.toInt) + carryInt c = a.toInt - m.toInt - (1 - carryInt c) := by ring
  rw [addWithCarry_overflow, byte_not_toInt, hdifference]

end

theorem sbcForms_read (b1 : Byte) (w : Word) : ∀ f ∈ sbcForms b1 w, f.Reads sbcA := by
  intro f hf
  fin_cases hf <;> exact ⟨rfl, fun _ => rfl⟩

/-- Settles O42: each form is a read whose byte goes through the adder complemented. -/
theorem sbcSubtractsWithBorrow : Obligations.SbcSubtractsWithBorrow := by
  refine readsAs_of_reads sbcA_quiet (fun m s => ?_) sbcForms_read
  rw [sbcA, addToA_eq_withZN, addWithCarry_not_result, addWithCarry_not_carry, addWithCarry_not_overflow]

/-! The compares (R143 to R145, R153). -/

/-- The difference of two bytes is zero exactly when they are equal. -/
theorem compareReg_eq_withCompare (reg m : Byte) (s : State) : compareReg reg m s = withCompare s reg m := by
  have hzero : decide (reg - m = 0#8) = decide (reg = m) := decide_eq_decide.2 sub_eq_zero
  rw [compareReg, State.setZN, hzero]
  rfl

theorem cmpForms_read (b1 : Byte) (w : Word) : ∀ f ∈ cmpForms b1 w, f.Reads cmpA := by
  intro f hf
  fin_cases hf <;> exact ⟨rfl, fun _ => rfl⟩

theorem cpxForms_read (b1 : Byte) (w : Word) : ∀ f ∈ cpxForms b1 w, f.Reads cmpX := by
  intro f hf
  fin_cases hf <;> exact ⟨rfl, fun _ => rfl⟩

theorem cpyForms_read (b1 : Byte) (w : Word) : ∀ f ∈ cpyForms b1 w, f.Reads cmpY := by
  intro f hf
  fin_cases hf <;> exact ⟨rfl, fun _ => rfl⟩

/-- Settles O43: each form is a read whose byte is compared with its register. -/
theorem comparesSetCarryZeroNegative : Obligations.ComparesSetCarryZeroNegative :=
  ⟨readsAs_of_reads cmpA_quiet (fun m s => compareReg_eq_withCompare s.A m s) cmpForms_read,
    readsAs_of_reads cmpX_quiet (fun m s => compareReg_eq_withCompare s.X m s) cpxForms_read,
    readsAs_of_reads cmpY_quiet (fun m s => compareReg_eq_withCompare s.Y m s) cpyForms_read⟩

/-! INX, INY, DEX and DEY (R147, R148, R150, R151). -/

theorem moveX_eq_withZN (d : Byte) (s : State) : moveX d s = withZN { s with X := s.X + d } (s.X + d) := rfl
theorem moveY_eq_withZN (d : Byte) (s : State) : moveY d s = withZN { s with Y := s.Y + d } (s.Y + d) := rfl

/-- Settles O45: each is an implied instruction that moves its register by 1 or by -1. -/
theorem indexIncrementsWrap : Obligations.IndexIncrementsWrap := by
  refine ⟨⟨rfl, rfl, rfl, rfl⟩, fun s => ?_⟩
  simp only [exec_inx, exec_iny, exec_dex, exec_dey, impliedForm_eq_update, moveX_eq_withZN, moveY_eq_withZN,
    ← sub_eq_add_neg]
  exact ⟨rfl, rfl, rfl, rfl⟩

end Sys2Proof.Machine
end

section
/-! PROOF. The forms whose instruction reads a byte, changes it and writes it back, in A or in one memory cell, and INC and DEC
among them (spec/40_addressing_modes.md rule R116, spec/42_arithmetic.md rules R146 and R149). -/

namespace Sys2Proof.Spec

open Sys2Proof.Machine

/-- A store to an operand's place writes A or memory, and nothing else (R116). -/
theorem storeOperand_eq_update (p : Place) (v : Byte) (s : State) :
    storeOperand p v s = { s with A := if p = .acc then v else s.A, mem := (storeOperand p v s).mem } := by
  cases p <;> rfl

theorem placeOf_eq_acc_iff (o : Operand) (s : State) : placeOf o s = .acc ↔ o = .acc := by
  cases o <;> simp [placeOf]

theorem placeOf_eq_mem {o : Operand} (himm : ∀ v, o ≠ .imm v) (hacc : o ≠ .acc) (s : State) :
    placeOf o s = .mem (effAddr o s) := by
  cases o with
  | imm v => exact absurd rfl (himm v)
  | acc => exact absurd rfl hacc
  | _ => rfl

/-- What is stored where depends on the memory alone. -/
theorem StoredOnly.of_mem_eq {s t u : State} {ea : Word} {v : Byte} (h : StoredOnly s t ea v) (hmem : u.mem = t.mem) :
    StoredOnly s u ea v := by
  obtain ⟨hother, hstored⟩ := h
  refine ⟨fun a ha => (State.readByte_congr hmem a).trans (hother a ha), fun hs => ?_⟩
  rw [State.readByte_congr hmem, hmem]
  exact hstored hs

/-- A form whose instruction has the shape of a read-modify-write, without a penalty (R114, R116). -/
structure Form.Modifies (new : Byte → Bool → Byte) (flags : Byte → Byte → State → State) (f : Form) : Prop where
  encoded : encode f.instr = f.bytes
  no_plus : f.plus = false
  not_immediate : ∀ v, f.operand ≠ .imm v
  exec_eq : ∀ s, exec f.instr s = modifyForm (fun b => new b s.C) flags f.operand f.cycles s

section
variable {new : Byte → Bool → Byte} {flags : Byte → Byte → State → State}

/-- A read-modify-write form stores the new byte where it read the old one, and then sets the flags (R85, R116). -/
theorem Form.Modifies.exec_eq_next {f : Form} (h : f.Modifies new flags)
    (hquiet : ∀ old v t, Quiet t (flags old v t)) (s : State) :
    exec f.instr s =
      .next { flags (f.loaded s) (new (f.loaded s) s.C) (storeOperand (placeOf f.operand s) (new (f.loaded s) s.C) s) with
                PC := f.next s, cycles := s.cycles + f.cost s } := by
  simp only [h.exec_eq, modifyForm, Form.loadOperand_eq_loaded, Form.pc_add_operandLength, finish_eq_update,
    (hquiet _ _ _).cycles, storeOperand_cycles, Form.cost_of_no_plus h.no_plus]

/-- The flags have to be set without a look at A or memory, for they are set after the store. -/
theorem modifiesAs_of_modifies {forms : Byte → Word → List Form} {effect : Byte → Byte → State → State}
    (hquiet : ∀ old v t, Quiet t (flags old v t))
    (heffect : ∀ old v t a m, flags old v { t with A := a, mem := m } = { effect old v t with A := a, mem := m })
    (h : ∀ b1 w, ∀ f ∈ forms b1 w, f.Modifies new flags) : ModifiesAs forms new effect := by
  intro b1 w f hf
  have hmodifies := h b1 w f hf
  refine ⟨Form.isEncoded_of_encode hmodifies.encoded, fun s => ⟨_, hmodifies.exec_eq_next hquiet s, ?_, ?_, ?_⟩⟩
  · rw [storeOperand_eq_update, heffect]
    simp only [placeOf_eq_acc_iff]
  · intro hacc
    rw [hacc]
    exact (hquiet _ _ _).mem
  · intro hacc
    rw [placeOf_eq_mem hmodifies.not_immediate hacc]
    exact (writeByte_storedOnly s _ _).of_mem_eq (hquiet _ _ _).mem

end

end Sys2Proof.Spec

namespace Sys2Proof.Machine

open Spec

theorem incForms_modify (b1 : Byte) (w : Word) :
    ∀ f ∈ incForms b1 w, f.Modifies (fun b _ => b + 1) (fun _ new s => s.setZN new) := by
  intro f hf
  fin_cases hf <;> exact ⟨rfl, rfl, nofun, fun _ => rfl⟩

theorem decForms_modify (b1 : Byte) (w : Word) :
    ∀ f ∈ decForms b1 w, f.Modifies (fun b _ => b - 1) (fun _ new s => s.setZN new) := by
  intro f hf
  fin_cases hf <;> exact ⟨rfl, rfl, nofun, fun _ => rfl⟩

/-- Settles O44: each form writes back the byte it read, moved by one, and Z and N are those of the new byte. -/
theorem incDecModifyOneMemoryByte : Obligations.IncDecModifyOneMemoryByte :=
  ⟨modifiesAs_of_modifies (fun _ => setZN_quiet) (fun _ _ _ _ _ => rfl) incForms_modify,
    modifiesAs_of_modifies (fun _ => setZN_quiet) (fun _ _ _ _ _ => rfl) decForms_modify⟩

end Sys2Proof.Machine
end

section
/-! PROOF. AND, ORA, EOR and BIT, the shifts and the rotates (spec/43_logic_shift.md rules R161 to R168). -/

namespace Sys2Proof.Machine

open Spec

/-! The bits the shifts move: a rotate puts the old C into the vacated bit, a shift puts 0 there (R165 to R168). -/

theorem shiftLeft_false (b : Byte) : shiftLeft b false = b <<< 1 := by
  rw [shiftLeft_eq]
  exact BitVec.or_zero

theorem shiftRight_false (b : Byte) : shiftRight b false = b >>> 1 := by
  rw [shiftRight_eq]
  exact BitVec.or_zero

theorem leftFlags_eq_withZN (old new : Byte) (s : State) :
    leftFlags old new s = withZN { s with C := old.getLsbD 7 } new := rfl
theorem rightFlags_eq_withZN (old new : Byte) (s : State) :
    rightFlags old new s = withZN { s with C := old.getLsbD 0 } new := rfl

theorem aslForms_modify (b1 : Byte) (w : Word) :
    ∀ f ∈ aslForms b1 w, f.Modifies (fun b _ => shiftLeft b false) leftFlags := by
  intro f hf
  fin_cases hf <;> exact ⟨rfl, rfl, nofun, fun _ => rfl⟩

theorem lsrForms_modify (b1 : Byte) (w : Word) :
    ∀ f ∈ lsrForms b1 w, f.Modifies (fun b _ => shiftRight b false) rightFlags := by
  intro f hf
  fin_cases hf <;> exact ⟨rfl, rfl, nofun, fun _ => rfl⟩

theorem rolForms_modify (b1 : Byte) (w : Word) : ∀ f ∈ rolForms b1 w, f.Modifies shiftLeft leftFlags := by
  intro f hf
  fin_cases hf <;> exact ⟨rfl, rfl, nofun, fun _ => rfl⟩

theorem rorForms_modify (b1 : Byte) (w : Word) : ∀ f ∈ rorForms b1 w, f.Modifies shiftRight rightFlags := by
  intro f hf
  fin_cases hf <;> exact ⟨rfl, rfl, nofun, fun _ => rfl⟩

/-- Settles O48: each form writes back the byte it read, moved by one place with a 0 in the vacated bit. -/
theorem shiftsMoveOneBitThroughCarry : Obligations.ShiftsMoveOneBitThroughCarry := by
  unfold Obligations.ShiftsMoveOneBitThroughCarry
  simp only [← shiftLeft_false, ← shiftRight_false]
  exact ⟨modifiesAs_of_modifies leftFlags_quiet (fun _ _ _ _ _ => leftFlags_eq_withZN ..) aslForms_modify,
    modifiesAs_of_modifies rightFlags_quiet (fun _ _ _ _ _ => rightFlags_eq_withZN ..) lsrForms_modify⟩

/-- Settles O49: each form writes back the byte it read, moved by one place with the old C in the vacated bit. -/
theorem rotatesMoveNineBits : Obligations.RotatesMoveNineBits := by
  unfold Obligations.RotatesMoveNineBits
  simp only [← shiftLeft_eq, ← shiftRight_eq]
  exact ⟨modifiesAs_of_modifies leftFlags_quiet (fun _ _ _ _ _ => leftFlags_eq_withZN ..) rolForms_modify,
    modifiesAs_of_modifies rightFlags_quiet (fun _ _ _ _ _ => rightFlags_eq_withZN ..) rorForms_modify⟩

/-! AND, ORA and EOR load the combined byte into A (R161 to R163). -/

theorem andA_eq_withZN (m : Byte) (s : State) : andA m s = withZN { s with A := s.A &&& m } (s.A &&& m) := rfl
theorem oraA_eq_withZN (m : Byte) (s : State) : oraA m s = withZN { s with A := s.A ||| m } (s.A ||| m) := rfl
theorem eorA_eq_withZN (m : Byte) (s : State) : eorA m s = withZN { s with A := s.A ^^^ m } (s.A ^^^ m) := rfl

theorem andForms_read (b1 : Byte) (w : Word) : ∀ f ∈ andForms b1 w, f.Reads andA := by
  intro f hf
  fin_cases hf <;> exact ⟨rfl, fun _ => rfl⟩

theorem oraForms_read (b1 : Byte) (w : Word) : ∀ f ∈ oraForms b1 w, f.Reads oraA := by
  intro f hf
  fin_cases hf <;> exact ⟨rfl, fun _ => rfl⟩

theorem eorForms_read (b1 : Byte) (w : Word) : ∀ f ∈ eorForms b1 w, f.Reads eorA := by
  intro f hf
  fin_cases hf <;> exact ⟨rfl, fun _ => rfl⟩

/-- Settles O46: each form is a read whose byte is combined with A and loaded into A. -/
theorem logicCombinesWithA : Obligations.LogicCombinesWithA :=
  ⟨readsAs_of_reads andA_quiet andA_eq_withZN andForms_read, readsAs_of_reads oraA_quiet oraA_eq_withZN oraForms_read,
    readsAs_of_reads eorA_quiet eorA_eq_withZN eorForms_read⟩

/-! BIT sets three flags and keeps no result (R164). -/

theorem bitTest_eq_update (m : Byte) (s : State) :
    bitTest m s = { s with Z := decide (s.A &&& m = 0x00), N := m.getLsbD 7, V := m.getLsbD 6 } := rfl

theorem bitForms_read (b1 : Byte) (w : Word) : ∀ f ∈ bitForms b1 w, f.Reads bitTest := by
  intro f hf
  fin_cases hf <;> exact ⟨rfl, fun _ => rfl⟩

/-- Settles O47: each form is a read whose byte is tested against A. -/
theorem bitTestsWithoutKeepingAResult : Obligations.BitTestsWithoutKeepingAResult :=
  readsAs_of_reads bitTest_quiet bitTest_eq_update bitForms_read

end Sys2Proof.Machine
end

section
/-! PROOF. The branches, and JSR and RTS with the word on the stack between them (spec/44_branch_jump.md rules R175 to R183 and
R185 to R187). -/

namespace Sys2Proof.Machine

open Spec

/-! The branches (R175 to R183). -/

theorem branchTarget_eq_signExtend (b1 : Byte) (s : State) : branchTarget b1 s = s.PC + 2 + b1.signExtend 16 := by
  rw [branchTarget, branchNext, sext16_eq_signExtend]

/-- The cycle for another page, with the pages as numbers (R113, R175). -/
theorem bitNat_pageCross (next target : Word) :
    bitNat (pageCross next target) = if target.toNat / 256 = next.toNat / 256 then 0 else 1 := by
  simp only [pageCross_eq_decide_toNat, bitNat, decide_eq_true_eq, ne_eq, ite_not,
    eq_comm (a := target.toNat / 256)]

/-- A branch writes PC and the counter, and nothing else, taken or not (R175). -/
theorem branchOn_eq_update (cond : Bool) (b1 : Byte) (base : Nat) (s : State) :
    branchOn cond b1 base s = .next (if cond = true
      then { s with PC := branchTarget b1 s
                    cycles := s.cycles + (base + (1 + bitNat (pageCross (branchNext s) (branchTarget b1 s)))) }
      else { s with PC := branchNext s, cycles := s.cycles + base }) := by
  cases cond <;> rfl

theorem branchForms_branchOn (b1 : Byte) :
    ∀ f ∈ branchForms b1, encode f.2.1 = [f.1, b1] ∧ ∀ s, exec f.2.1 s = branchOn (f.2.2 s) b1 2 s := by
  intro f hf
  fin_cases hf <;> exact ⟨rfl, fun _ => rfl⟩

/-- Settles O50: each branch is the shared one on its own flag condition, whose target and page cost are these numbers. -/
theorem branchesReadOneFlag : Obligations.BranchesReadOneFlag := by
  intro b1 f hf
  obtain ⟨hencode, hexec⟩ := branchForms_branchOn b1 f hf
  refine ⟨hencode, fun s => ?_⟩
  rw [hexec, branchOn_eq_update, bitNat_pageCross, branchTarget_eq_signExtend, ← Nat.add_assoc]
  rfl

/-! JSR and RTS (R185 to R187). -/

/-- A word push writes SP and memory, and nothing else (R65). -/
theorem push16_eq_update (s : State) (w : Word) :
    s.push16 w = { s with SP := s.SP - 2, mem := (s.push16 w).mem } := by
  rw [← State.push16_SP_eq s w]
  rfl

/-- A word pull writes SP, and nothing else (R66). -/
theorem drop16_eq_update (s : State) : s.drop16 = { s with SP := s.SP + 2 } := by
  have hSP : s.drop16.SP = s.SP + 2 := BitVec.add_assoc s.SP 1 1
  rw [← hSP]
  rfl

/-- The low byte of the word pulled is in the cell of SP + 1, the high byte in that of SP + 2 (R66). -/
theorem top16_eq_mkWord (s : State) :
    s.top16 = mkWord (s.readByte (stackAddr (s.SP + 2))) (s.readByte (stackAddr (s.SP + 1))) := by
  have hhigh : s.drop8.SP + 1 = s.SP + 2 := BitVec.add_assoc s.SP 1 1
  rw [State.top16, State.top8, State.top8, hhigh, State.readByte_drop8]

/-- Settles O52: JSR is a word push and the end of an instruction; the push has its own frame and read-back rules. -/
theorem jsrPushesItsLastByteAddress : Obligations.JsrPushesItsLastByteAddress := by
  intro w s
  refine ⟨rfl, _, (exec_jsr w s).trans (finish_eq_update w 6 _), ?_,
    fun a h0 h1 => State.readByte_push16_other (s.PC + 2) h0 h1,
    fun h => ⟨State.readByte_push16_high h _, State.readByte_push16_low h _, State.push16_canonical h _⟩⟩
  rw [push16_eq_update]

/-- Settles O53: RTS is a word pull and the end of an instruction. -/
theorem rtsReturnsPastThePulledWord : Obligations.RtsReturnsPastThePulledWord := by
  refine ⟨rfl, fun s => ?_⟩
  rw [exec_rts, finish_eq_update, top16_eq_mkWord, drop16_eq_update]

/-- Settles O54: SP + 1 and SP + 2 name, after the JSR, the two cells it wrote, and the word there is PC + 2. -/
theorem jsrAndRtsAreBalanced : Obligations.JsrAndRtsAreBalanced := by
  intro w s t u v hs hjsr hSP hhigh hlow hrts
  obtain ⟨-, t', hjsr', ht', -, hpushed⟩ := jsrPushesItsLastByteAddress w s
  obtain rfl : t' = t := Host.Outcome.next.inj (hjsr'.symm.trans hjsr)
  obtain ⟨hpushedHigh, hpushedLow, -⟩ := hpushed hs
  have huSP : u.SP = s.SP - 2 := hSP.trans (congrArg State.SP ht')
  have hone : u.SP + 1 = s.SP - 1 := by rw [huSP]; bv_omega
  have htwo : u.SP + 2 = s.SP := by rw [huSP, BitVec.sub_add_cancel]
  have hword : mkWord (u.readByte (stackAddr (u.SP + 2))) (u.readByte (stackAddr (u.SP + 1))) = s.PC + 2 := by
    rw [hone, htwo, hhigh, hlow, hpushedHigh, hpushedLow, mkWord_hi8_lo8]
  obtain ⟨-, hexec⟩ := rtsReturnsPastThePulledWord
  obtain rfl := Host.Outcome.next.inj ((hexec u).symm.trans hrts)
  refine ⟨htwo, ?_⟩
  rw [hword]
  exact BitVec.add_assoc s.PC 2 1

end Sys2Proof.Machine
end

section
/-! PROOF. The pushes and pulls of one byte (spec/45_stack.md rules R195 to R198). -/

namespace Sys2Proof.Machine

open Spec

/-- A byte push writes SP and memory, and nothing else (R63). -/
theorem push8_eq_update (s : State) (v : Byte) : s.push8 v = { s with SP := s.SP - 1, mem := (s.push8 v).mem } := rfl

/-- An implied instruction that pushes a byte of its state stores that byte in the cell of SP alone (R63, R195, R196). -/
theorem impliedForm_push8_storedOnly (v : State → Byte) (base : Nat) (s : State) :
    ∃ t, impliedForm (fun s => s.push8 (v s)) base s = .next t ∧
      t = { s with SP := s.SP - 1, PC := s.PC + 1, cycles := s.cycles + base, mem := t.mem } ∧
      StoredOnly s t (stackAddr s.SP) (v s) := by
  refine ⟨_, impliedForm_eq_update _ base s, ?_, (push8_storedOnly s (v s)).of_mem_eq rfl⟩
  rw [push8_eq_update]

/-- Settles O55: PHA and PHP are implied pushes, of A and of the packed status byte. -/
theorem pushesStoreOneByte : Obligations.PushesStoreOneByte := by
  refine ⟨⟨rfl, rfl⟩, fun s => ⟨?_, ?_⟩⟩
  · rw [exec_pha]
    exact impliedForm_push8_storedOnly State.A 3 s
  · obtain ⟨t, hexec, hupdate, hstored⟩ := impliedForm_push8_storedOnly packP 3 s
    exact ⟨t, packP s, (exec_php s).trans hexec, packP_isStatusByte s, hupdate, hstored⟩

/-- A byte pull writes SP, and nothing else (R64). -/
theorem drop8_eq_update (s : State) : s.drop8 = { s with SP := s.SP + 1 } := rfl

theorem unpackP_eq_withPulledFlags (s : State) (b : Byte) : unpackP s b = withPulledFlags s b := rfl

/-- Settles O56: each pulls the cell of SP + 1; PLA loads the byte into A, PLP unpacks it into the six flags. -/
theorem pullsReadOneByte : Obligations.PullsReadOneByte := by
  refine ⟨⟨rfl, rfl⟩, fun s => ?_⟩
  simp only [exec_pla, exec_plp, impliedForm_eq_update, loadA_eq_withZN, unpackP_eq_withPulledFlags, drop8_eq_update,
    State.top8]
  exact ⟨rfl, rfl⟩

end Sys2Proof.Machine
end

section
/-! PROOF. The flag instructions and NOP, BRK and RTI, and the trap between the two (spec/46_control.md rules R205 to R215,
spec/60_exceptions.md rules R227 and R229). -/

namespace Sys2Proof.Machine

open Spec

/-! The flag instructions and NOP (R205 to R213). -/

/-- Settles O57: each is an implied instruction whose effect sets one flag, and NOP's sets none. -/
theorem flagInstructionsWriteOneFlag : Obligations.FlagInstructionsWriteOneFlag := by
  refine ⟨⟨rfl, rfl, rfl, rfl, rfl, rfl, rfl, rfl⟩, fun s => ?_⟩
  simp only [exec_clc, exec_sec, exec_cli, exec_sei, exec_cld, exec_sed, exec_clv, exec_nop]
  have hend := fun f => impliedForm_eq_update f 2 s
  exact ⟨hend _, hend _, hend _, hend _, hend _, hend _, hend _, hend _⟩

/-! BRK: what the trap entry leaves in the registers, in the three stack cells and at the vector (R214, R227). -/

/-- The trap entry writes SP, I, B and memory, and nothing else. -/
theorem trapEntry_eq_update (s : State) :
    trapEntry s = { s with SP := s.SP - 3, I := true, B := true, mem := (trapEntry s).mem } := by
  have hSP : (s.push16 (s.PC + 2)).SP - 1 = s.SP - 3 := by
    rw [State.push16_SP_eq]
    exact BitVec.sub_sub s.SP 2 1
  rw [← hSP]
  rfl

/-- The pushes stay in the stack page, so the vector read after them is the one from before (R73). -/
theorem trapEntry_readWord_vecBRK (s : State) :
    (trapEntry s).readWord Config.vecBRK = mkWord (s.readByte 0xFFFF) (s.readByte 0xFFFE) := by
  have hkept : ∀ a : Word, 0x01FF < a.toNat → (trapEntry s).readByte a = s.readByte a := fun a ha =>
    have hne := ne_stackAddr_of_outside (.inr ha)
    trapEntry_readByte_other (hne _) (hne _) (hne _)
  exact congrArg₂ mkWord (hkept 0xFFFF (by decide)) (hkept 0xFFFE (by decide))

/-- The status byte is pushed last, so it leaves the pushed word as it was. -/
theorem trapEntry_readByte_eq_push16 {s : State} {a : Word} (h : a ≠ stackAddr (s.SP - 2)) :
    (trapEntry s).readByte a = (s.push16 (s.PC + 2)).readByte a := by
  rw [← s.push16_SP_eq (s.PC + 2)] at h
  rw [trapEntry_readByte, State.readByte_push8_other _ h]

theorem trapEntry_readByte_high {s : State} (h : s.mem.wf = true) :
    (trapEntry s).readByte (stackAddr s.SP) = hi8 (s.PC + 2) := by
  rw [trapEntry_readByte_eq_push16 (stackAddr_sub_two_ne s.SP), State.readByte_push16_high h]

theorem trapEntry_readByte_low {s : State} (h : s.mem.wf = true) :
    (trapEntry s).readByte (stackAddr (s.SP - 1)) = lo8 (s.PC + 2) := by
  rw [trapEntry_readByte_eq_push16 (stackAddr_sub_one_ne_sub_two s.SP), State.readByte_push16_low h]

theorem trapEntry_readByte_status {s : State} (h : s.mem.wf = true) :
    (trapEntry s).readByte (stackAddr (s.SP - 2)) = packP s := by
  rw [trapEntry_readByte, ← s.push16_SP_eq (s.PC + 2)]
  exact State.readByte_push8_same (State.push16_canonical h _) _

/-- Settles O58: BRK is the trap entry and the end of an instruction; the entry has its own frame and read-back rules. -/
theorem brkTakesTheTrap : Obligations.BrkTakesTheTrap := by
  refine ⟨rfl, fun s => ⟨_, packP s, (exec_brk s).trans (finish_eq_update _ 7 _), packP_isStatusByte s, ?_,
    fun a h0 h1 h2 => trapEntry_readByte_other h0 h1 h2,
    fun h => ⟨trapEntry_readByte_high h, trapEntry_readByte_low h, trapEntry_readByte_status h, trapEntry_canonical h⟩⟩⟩
  rw [trapEntry_readWord_vecBRK, trapEntry_eq_update]

/-! RTI, and the balance of the two (R215, R229). -/

/-- Settles O59: RTI is a byte pull unpacked into the six flags, a word pull and the end of an instruction. -/
theorem rtiReturnsFromTheTrap : Obligations.RtiReturnsFromTheTrap := by
  refine ⟨rfl, fun s => ?_⟩
  have htwo : s.SP + 1 + 1 = s.SP + 2 := BitVec.add_assoc s.SP 1 1
  have hthree : s.SP + 1 + 2 = s.SP + 3 := BitVec.add_assoc s.SP 1 2
  rw [exec_rti, returnFromTrap, finish_eq_update, top16_eq_mkWord, drop16_eq_update, unpackP_eq_withPulledFlags,
    drop8_eq_update, State.top8, ← htwo, ← hthree]
  rfl

/-- The six flags pulled from a status byte are the flags it was built from (R37, R38). -/
theorem withPulledFlags_of_isStatusByte {p : Byte} {s : State} (h : IsStatusByte p s) (u : State) :
    withPulledFlags u p = { u with N := s.N, V := s.V, D := s.D, I := s.I, Z := s.Z, C := s.C } := by
  obtain ⟨hN, hV, -, -, hD, hI, hZ, hC⟩ := h
  rw [withPulledFlags, hN, hV, hD, hI, hZ, hC]

/-- Settles O60: SP + 1, SP + 2 and SP + 3 name, after the BRK, the three cells it wrote: the status byte and PC + 2. -/
theorem brkAndRtiAreBalanced : Obligations.BrkAndRtiAreBalanced := by
  intro s t u v hs hbrk hSP hcells hrti
  obtain ⟨-, htrap⟩ := brkTakesTheTrap
  obtain ⟨t', p, hbrk', hp, ht', -, hpushed⟩ := htrap s
  obtain rfl : t' = t := Host.Outcome.next.inj (hbrk'.symm.trans hbrk)
  obtain ⟨hhigh, hlow, hstatus, -⟩ := hpushed hs
  have huSP : u.SP = s.SP - 3 := hSP.trans (congrArg State.SP ht')
  have hone : u.SP + 1 = s.SP - 2 := by rw [huSP]; bv_omega
  have htwo : u.SP + 2 = s.SP - 1 := by rw [huSP]; bv_omega
  have hthree : u.SP + 3 = s.SP := by rw [huSP, BitVec.sub_add_cancel]
  have hword : mkWord (u.readByte (stackAddr (u.SP + 3))) (u.readByte (stackAddr (u.SP + 2))) = s.PC + 2 := by
    rw [hthree, htwo, hcells _ (.inl rfl), hcells _ (.inr (.inl rfl)), hhigh, hlow, mkWord_hi8_lo8]
  have hbyte : u.readByte (stackAddr (u.SP + 1)) = p := by rw [hone, hcells _ (.inr (.inr rfl)), hstatus]
  obtain ⟨-, hexec⟩ := rtiReturnsFromTheTrap
  obtain rfl := Host.Outcome.next.inj ((hexec u).symm.trans hrti)
  rw [hword, hbyte, withPulledFlags_of_isStatusByte hp]
  exact ⟨rfl, hthree, rfl, rfl, rfl, rfl, rfl, rfl, rfl⟩

end Sys2Proof.Machine
end

section
/-! PROOF. The exact cost of every instruction: its base cost, and the page-cross and branch penalties (spec/30_encoding.md
rule R95, spec/40_addressing_modes.md rule R114, spec/44_branch_jump.md rule R175, spec/70_reset_and_hazards.md rule R266). -/

namespace Sys2Proof.Machine

open Spec (baseCost pagePenalty branchPenalty takenPenalty indexCrosses)

section
variable {s t u : State} {next : Word} {b1 : Byte} {c : Bool} {base : Nat}

/-- The end of an instruction adds its cost to the counter, which the instruction's effect left alone (R85 step 4). -/
theorem finish_cycles {cost : Nat} (h : finish next cost u = .next t) (hu : u.cycles = s.cycles) :
    t.cycles = s.cycles + cost := by
  obtain rfl := finish_next_iff.1 h
  rw [State.addCycles_cycles, State.setPC_cycles, hu]

/-- An instruction that neither charges for the page nor branches costs its base (R95). -/
theorem finish_base_cycles (h : finish next base u = .next t) (hu : u.cycles = s.cycles) :
    t.cycles = s.cycles + base + 0 + 0 :=
  finish_cycles h hu

/-- What an index adds to the cost of an opcode that charges for the page: one cycle when the sum is in another page (R114,
R115). -/
theorem penaltyCycles_index (a : Word) (index : Byte) :
    penaltyCycles .pageCross (pageCross a (a + zext16 index)) = bitNat (indexCrosses a index) := by
  rw [penaltyCycles, pageCross_add_zext16, indexCrosses]

/-- An instruction that charges for the page costs its base and the penalty of its index (R114). -/
theorem finish_indexed_cycles {a : Word} {index : Byte}
    (h : finish next (base + penaltyCycles .pageCross (pageCross a (a + zext16 index))) u = .next t)
    (hu : u.cycles = s.cycles) : t.cycles = s.cycles + base + bitNat (indexCrosses a index) + 0 := by
  rw [finish_cycles h hu, penaltyCycles_index, Nat.add_zero, Nat.add_assoc]

/-- What a taken branch adds: one cycle, and one more for another page (R175). -/
theorem takenPenalty_eq (b1 : Byte) (s : State) :
    takenPenalty b1 s = 1 + bitNat (pageCross (branchNext s) (branchTarget b1 s)) := by
  simp only [takenPenalty, bitNat, pageCross, decide_eq_true_eq, branchTarget_eq_signExtend, branchNext]

/-- A branch costs its base, and the branch penalty when its condition takes it (R175). -/
theorem branchOn_cycles (h : branchOn c b1 base s = .next t) :
    t.cycles = s.cycles + base + 0 + if c then takenPenalty b1 s else 0 := by
  cases c with
  | false => exact finish_cycles h rfl
  | true =>
    rw [finish_cycles h rfl, ← takenPenalty_eq, Nat.add_zero, if_pos rfl, Nat.add_assoc]

/-- A branch on a clear flag costs its base, and the branch penalty when the flag is clear (R175). -/
theorem branchOn_not_cycles (h : branchOn (!c) b1 base s = .next t) :
    t.cycles = s.cycles + base + 0 + if c then 0 else takenPenalty b1 s := by
  rw [branchOn_cycles h]
  cases c <;> rfl

end

/-- Every instruction costs its base cost by class and mode, and the two penalties: the 23 opcodes of R114 have the first,
the eight branches the second, and the others neither. -/
theorem exec_cycles {i : Instr} {s t : State} (h : exec i s = .next t) :
    t.cycles = s.cycles + baseCost i.mnemonic i.format + pagePenalty i s + branchPenalty i s := by
  cases i with
  | ldaAbsX _ | ldyAbsX _ | adcAbsX _ | sbcAbsX _ | cmpAbsX _ | andAbsX _ | oraAbsX _ | eorAbsX _
  | ldaAbsY _ | ldxAbsY _ | adcAbsY _ | sbcAbsY _ | cmpAbsY _ | andAbsY _ | oraAbsY _ | eorAbsY _
  | ldaIndY _ | adcIndY _ | sbcIndY _ | cmpIndY _ | andIndY _ | oraIndY _ | eorIndY _ => exact finish_indexed_cycles h rfl
  | bcs _ | beq _ | bmi _ | bvs _ => exact branchOn_cycles h
  | bcc _ | bne _ | bpl _ | bvc _ => exact branchOn_not_cycles h
  | incZp _ | incZpX _ | incAbs _ | incAbsX _ | decZp _ | decZpX _ | decAbs _ | decAbsX _ =>
    exact finish_base_cycles h ((setZN_quiet _ _).cycles.trans (storeOperand_cycles _ _ s))
  | aslAcc | aslZp _ | aslZpX _ | aslAbs _ | aslAbsX _ | rolAcc | rolZp _ | rolZpX _ | rolAbs _ | rolAbsX _ =>
    exact finish_base_cycles h ((leftFlags_quiet _ _ _).cycles.trans (storeOperand_cycles _ _ s))
  | lsrAcc | lsrZp _ | lsrZpX _ | lsrAbs _ | lsrAbsX _ | rorAcc | rorZp _ | rorZpX _ | rorAbs _ | rorAbsX _ =>
    exact finish_base_cycles h ((rightFlags_quiet _ _ _).cycles.trans (storeOperand_cycles _ _ s))
  | cmpImm _ | cmpZp _ | cmpZpX _ | cmpAbs _ | cmpIndX _ | cpxImm _ | cpxZp _ | cpxAbs _ | cpyImm _ | cpyZp _ | cpyAbs _ =>
    exact finish_base_cycles h (compareReg_cycles _ _ s)
  | bitZp _ | bitAbs _ => exact finish_base_cycles h (bitTest_cycles _ s)
  | inx | dex | iny | dey => exact finish_base_cycles h (State.setZN_cycles _ _)
  | rti => exact finish_base_cycles h ((State.drop16_cycles _).trans (unpackP_cycles _ _))
  | brk => exact finish_base_cycles h (trapEntry_cycles s)
  | _ => exact finish_base_cycles h rfl

/-- Only a core whose latch is clear has a next state (R85 step 0, R224). -/
theorem running_of_step_next {s t : State} (h : step s = .next t) : Running s := by
  cases hs : s.fault with
  | none => exact hs
  | some f => cases (step_latched hs).symm.trans h

/-- One of the 105 bytes of R91 at PC sets the latch and nothing else (R224). -/
theorem step_illegalOpcode {s : State} (hs : Running s) (h : s.readByte s.PC ∈ illegalOpcodes) :
    step s = .next (raiseIllegalOpcode s) :=
  step_illegal hs ((mem_illegalOpcodes_iff _).1 h)

/-- A step that meets an illegal opcode byte costs nothing (R224, R266). -/
theorem step_illegalOpcode_cycles {s t : State} (h : s.readByte s.PC ∈ illegalOpcodes) (hstep : step s = .next t) :
    t.cycles = s.cycles := by
  cases (step_illegalOpcode (running_of_step_next hstep) h).symm.trans hstep
  rfl

/-- Settles O25: the cost of an instruction, by its constructor; the faulting step and the two resets only write the latch or
zero the counter. -/
theorem costOfAStep : Obligations.CostOfAStep :=
  ⟨fun _ _ _ => exec_cycles, fun _ _ => step_illegalOpcode_cycles, fun _ => ⟨rfl, rfl⟩⟩

end Sys2Proof.Machine
end

section
/-! PROOF. The fault latch (spec/60_exceptions.md rule R224): what sets it, what it stops, and what clears it. -/

namespace Sys2Proof.Machine

/-- With the latch set every host event but `PowerUp` and `Reset` that answers a next state keeps it: a step answers none
(R224, R256). -/
theorem applyEvent_keeps_latch {s t : State} {e : HostEvent} {f : Fault} (hs : s.fault = some f)
    (h : applyEvent e s = .next t) (hpower : e ≠ .powerUp) (hreset : e ≠ .reset) : t.fault = some f := by
  cases e with
  | powerUp => exact absurd rfl hpower
  | reset => exact absurd rfl hreset
  | step => cases hs.symm.trans (running_of_step_next h)
  | hostWrite _ _ | hostRead _ | readCycles | resetCycles | readFault =>
    cases h
    exact hs

/-- Settles O7: the illegal byte raises the fault, a set latch answers no next state, and of the host events only the two
resets write the latch. -/
theorem illegalOpcodeSetsTheLatchOnly : Obligations.IllegalOpcodeSetsTheLatchOnly := by
  refine ⟨fun _ => step_illegalOpcode, fun s t f hs h => ?_, fun _ => ⟨rfl, rfl⟩, fun _ _ _ _ => applyEvent_keeps_latch⟩
  cases hs.symm.trans (running_of_step_next h)

end Sys2Proof.Machine
end

section
/-! PROOF. The two resets, the host's reads, and the two launch sequences (spec/70_reset_and_hazards.md rules R250 to
R261). -/

namespace Sys2Proof.Machine

/-- `PowerUp` leaves one fixed state: the vector it reads is in a memory that has just been zeroed (R250, R251). -/
theorem powerUp_eq_reset (s : State) : powerUp s = State.reset := by
  have hPC : (s.setMem Memory.zeroed).readWord Config.vecReset = 0x0000 := by
    simp [State.readWord, State.readByte, mkWord]
  rw [powerUp, initRegisters, hPC]
  rfl

/-- Settles O13: the reset state, field by field, with no cell listed. -/
theorem powerUpLeavesTheResetState : Obligations.PowerUpLeavesTheResetState := by
  intro s
  rw [powerUp_eq_reset]
  exact ⟨rfl, rfl, rfl, rfl, rfl, rfl, rfl, rfl, rfl, rfl, rfl, rfl, rfl, rfl, rfl, fun a => Memory.read_nil a.toNat⟩

/-- `Reset` gives the reset state but for the memory, which is kept, and PC, which is the word at 0xFFFC (R252). -/
theorem warmReset_eq_reset (s : State) :
    warmReset s = { State.reset with mem := s.mem, PC := mkWord (s.readByte 0xFFFD) (s.readByte 0xFFFC) } := rfl

/-- Settles O14: the values of the reset state are these. -/
theorem resetKeepsMemoryAndLoadsTheVector : Obligations.ResetKeepsMemoryAndLoadsTheVector :=
  warmReset_eq_reset

/-- Settles O16: the reads answer the state they were given, and `ResetCycles` writes the counter. -/
theorem hostReadsAndCounterReset : Obligations.HostReadsAndCounterReset :=
  fun _ _ => ⟨rfl, rfl, rfl, rfl, rfl, rfl, rfl⟩

/-! The image: the loader's writes, one after another (R74, R258). -/

/-- The state after the host has written an image. -/
def loadImage (image : List (Word × Byte)) (s : State) : State := image.foldl (fun t p => hostWrite p.1 p.2 t) s

theorem loadImage_cons (a : Word) (v : Byte) (image : List (Word × Byte)) (s : State) :
    loadImage ((a, v) :: image) s = loadImage image (s.writeByte a v) := rfl

/-- The loader's writes always complete, and the events after them run from the loaded state. -/
theorem runEvents_imageEvents_append (image : List (Word × Byte)) (es : List HostEvent) (s : State) :
    runEvents (imageEvents image ++ es) s = runEvents es (loadImage image s) := by
  induction image generalizing s with
  | nil => rfl
  | cons p image ih => exact ih (hostWrite p.1 p.2 s)

/-- Loading an image writes memory only. -/
theorem loadImage_eq_update (image : List (Word × Byte)) (s : State) :
    loadImage image s = { s with mem := (loadImage image s).mem } := by
  induction image generalizing s with
  | nil => rfl
  | cons p image ih => exact ih (hostWrite p.1 p.2 s)

/-- A cell holds the last byte the image wrote to it, or what it held before. -/
theorem loadImage_readByte (image : List (Word × Byte)) {s : State} (hs : Canonical s) (x : Word) :
    (loadImage image s).readByte x = (image.reverse.lookup x).getD (s.readByte x) := by
  induction image generalizing s with
  | nil => rfl
  | cons p image ih =>
    obtain ⟨a, v⟩ := p
    rw [loadImage_cons, ih (State.writeByte_canonical hs a v), List.reverse_cons, List.lookup_append]
    cases image.reverse.lookup x with
    | some w => rfl
    | none =>
      by_cases hx : x = a
      · subst hx
        simp [State.readByte_writeByte_same hs]
      · simp [State.readByte_writeByte_other s v hx, List.lookup, beq_false_of_ne hx]

/-- After `PowerUp` the run goes on from the reset state. -/
theorem runEvents_powerUp (es : List HostEvent) (s : State) :
    runEvents (.powerUp :: es) s = runEvents es State.reset := by
  rw [← powerUp_eq_reset s]
  rfl

theorem runEvents_launchA (image : List (Word × Byte)) (s : State) :
    runEvents (launchA image) s = .next (loadImage image State.reset) := by
  rw [launchA, runEvents_powerUp, ← List.append_nil (imageEvents image), runEvents_imageEvents_append, runEvents]

theorem runEvents_launchB (image : List (Word × Byte)) (s : State) :
    runEvents (launchB image) s = .next (warmReset (loadImage image State.reset)) := by
  rw [launchB, runEvents_powerUp, runEvents_imageEvents_append]
  rfl

/-- Settles O15: both sequences load the image from the reset state, whose cells are all 0x00, and B ends with `Reset`. -/
theorem launchSequencesGiveTheLaunchState : Obligations.LaunchSequencesGiveTheLaunchState := by
  intro image s
  exact ⟨loadImage image State.reset, warmReset (loadImage image State.reset), runEvents_launchA image s,
    runEvents_launchB image s, loadImage_eq_update image _, rfl, warmReset_eq_reset _,
    loadImage_readByte image resetStateIsCanonical⟩

end Sys2Proof.Machine
end
